-- ==== Sys2Proof/Word.lean ====
section
/-! DEFINITION. The words and the plain data types of TSDEMUX: widths of R13, the control states of R25, the
termination causes of R232, and the fields the input formats of R80 carry. No function stands here. -/

namespace Sys2Proof

/-- One byte of the input stream or of the packet buffer (R60). -/
abbrev Byte := BitVec 8

/-- A program identifier, 13 bits (R13). -/
abbrev Pid := BitVec 13

/-- A raw timestamp in 90 kHz ticks, 33 bits (R13, R86). -/
abbrev Ticks := BitVec 33

/-- A diagnostic counter, `CNT_WIDTH = 32` bits (R13, R34). -/
abbrev Count := BitVec 32

/-- The control point of the block, R25. -/
inductive Fsm where
  /-- Before the first `start`. -/
  | idle
  /-- A marker is expected. -/
  | seekSync
  /-- The 187 bytes of a packet are being read. -/
  | readPacket
  /-- The 3-byte header is decoded next. -/
  | processHeader
  /-- The media-packet window is evaluated next. -/
  | processPes
  /-- The candidate checks are made next. -/
  | processCandidate
  /-- A decoder request is outstanding (R38). -/
  | waitDecoder
  /-- The stream has ended (R231). -/
  | done
deriving DecidableEq, Repr

/-- Why the stream ended, the values of `DONE_REASON` (R32, R232). -/
inductive DoneReason where
  /-- Code 0, NONE. -/
  | notEnded
  /-- Code 1, END_OF_DATA. -/
  | endOfData
  /-- Code 2, TRUNCATED. -/
  | truncated
  /-- Code 3, SYNC_LOSS. -/
  | syncLoss
deriving DecidableEq, Repr

/-- What the source offers at one read (R16, R202). -/
inductive Token where
  | byte (b : Byte)
  | eos
deriving DecidableEq, Repr

/-- The host's configuration inputs with the defaults of R261. -/
structure StreamConfig where
  showNull : Bool := true
  pidFilter : Option Pid := none
  resync : Bool := false
deriving DecidableEq, Repr

/-- The fields of the transport packet header (R82); also the seven `HDR_*` registers (R28). -/
structure Header where
  tei : Bool
  pusi : Bool
  prio : Bool
  pid : Pid
  tsc : BitVec 2
  afc : BitVec 2
  cc : BitVec 4
deriving DecidableEq, Repr

/-- The eighteen fields of the media-packet header window, in the order of R84. `startCode` is the spec's `prefix`. -/
structure PesWindow where
  startCode : BitVec 24
  streamId : Byte
  pesLength : BitVec 16
  optMarker : BitVec 2
  pesScrambling : BitVec 2
  pesPriority : BitVec 1
  alignment : BitVec 1
  copyright : BitVec 1
  original : BitVec 1
  ptsFlags : BitVec 2
  skip14 : BitVec 14
  ptsTag : BitVec 4
  ptsHi : BitVec 3
  marker1 : BitVec 1
  ptsMid : BitVec 15
  marker2 : BitVec 1
  ptsLo : BitVec 15
  marker3 : BitVec 1
deriving DecidableEq, Repr

/-- The three data inputs of the candidate filter, format CANDW (R87). -/
structure CandWindow where
  marker : Byte
  pid : Pid
  nullByte : Byte
deriving DecidableEq, Repr

end Sys2Proof
end

