-- ==== Sys2Proof/Config.lean ====
section
/-! DEFINITION. What is fixed for a machine: the constants of R10 and R11, and the parameters of R12. -/

namespace Sys2Proof

namespace Config

/-- `PKT_LEN`, the frame with its synchronization byte (R10). -/
abbrev pktLen : Nat := 188
/-- `BUF_LEN`, the bytes after the synchronization byte (R10). -/
abbrev bufLen : Nat := 187
/-- `HDR_LEN` (R10). -/
abbrev hdrLen : Nat := 3
/-- `PAYLOAD_LEN` (R10). -/
abbrev payloadLen : Nat := 184
/-- `PES_OFFSET` (R11). -/
abbrev pesOffset : Nat := 3
/-- Bytes of the media-packet header window (R80). -/
abbrev pesLen : Nat := 14
/-- `CAND_MARKER_OFFSET` (R11). -/
abbrev candMarkerOffset : Nat := 4
/-- `CAND_MARKER` (R11). -/
abbrev candMarker : Byte := 0xFC
/-- `RESERVED_PID`, decimal 101 (R11; the radix is the spec's D7). -/
abbrev reservedPid : Pid := 101
/-- `NULL_CHECK_OFFSET`, a buffer offset (R11; the base is the spec's D6). -/
abbrev nullCheckOffset : Nat := 17
/-- `CAND_SPAN_OFFSET` (R11). -/
abbrev candSpanOffset : Nat := 4
/-- Bytes of the candidate span, `P[4..186]` (R88). -/
abbrev candSpanLen : Nat := 183
/-- `PES_START_CODE` (R11). -/
abbrev pesStartCode : BitVec 24 := 1
/-- `PTS_CLOCK_HZ` (R11). -/
abbrev ptsClockHz : Nat := 90000

/-- How many events beyond one the event FIFO of an implementation holds. R12 gives `EVENT_FIFO_DEPTH` no value:
nothing can be proved of this number. Safe: log 5. -/
opaque fifoSlack : Nat

/-- `EVENT_FIFO_DEPTH`, a natural number at least 1 (R12). -/
def eventFifoDepth : Nat := fifoSlack + 1

/-- Which codes stand for decoded objects, beside code 0. R12 leaves the type `Section` OPEN: nothing can be proved of
this set, so that the type may have one object, any number of them, or infinitely many. Safe: log 6. -/
opaque isSection : Nat → Bool

end Config

/-- The type `Section` of R12, an opaque parameter (D14, I7): the objects of the external decoder, which the opaque
`Config.isSection` picks. Registers, events, responses and status values hold these objects. Code 0 is always one, since
`LAST_SECTION` holds some object at power-on; no rule of the block reads a code. Safe: log 6. -/
structure Section where
  code : Nat
  isObject : code = 0 ∨ Config.isSection code = true
deriving DecidableEq, Repr

/-- The one object that every `Section` type is known to have. -/
def Section.first : Section := ⟨0, .inl rfl⟩

/-- The parameters the spec leaves open and a model takes as arguments (R12). They stand in State, written by no
step, so that a statement over all states holds for all their values. Logs 3, 4 and 5. The type
`Section`, a parameter too, is the open type above (log 6). -/
structure Params where
  /-- `SYNC_BYTE`; the default is the spec's (R12, D2). -/
  syncByte : Byte := 0x47
  /-- `PES_EXCLUDED_IDS`; the default is the spec's (R12, D3). -/
  excludedIds : List Byte := [0xBC, 0xBE, 0xBF, 0xF0, 0xF1, 0xF2, 0xF8, 0xFF]
  /-- `EVENT_FIFO_DEPTH`. -/
  fifoDepth : Nat := Config.eventFifoDepth
deriving DecidableEq, Repr

end Sys2Proof
end

