-- ==== Sys2Proof/Ports.lean ====
section
/-! DEFINITION. What crosses a port of the block: the decoder's answers, the output events, and the words of the input
formats of R80. -/

namespace Sys2Proof

/-- The decoder's answer to a request, format DECR (R90). -/
inductive Response where
  | ok (s : Section)
  | fail
deriving DecidableEq, Repr

/-- An output event, format EVT (R89). -/
inductive Event where
  /-- `TS(raw)`. -/
  | ts (raw : Ticks)
  /-- `SECTION(s)`. -/
  | sec (s : Section)
deriving DecidableEq, Repr

/-- A word of one of the input formats of R80. -/
inductive InputWord where
  /-- HOST: bit 0 is `start`, with the configuration inputs. -/
  | host (start : BitVec 1) (cfg : StreamConfig)
  /-- SRC: one source token, 9 bits (R81). -/
  | src (t : BitVec 9)
  /-- TSH: `P[0] ++ P[1] ++ P[2]` (R82). -/
  | tsh (h : BitVec 24)
  /-- PESW: `P[3] ++ … ++ P[16]` (R84). -/
  | pesw (w : BitVec 112)
  /-- CANDW: `P[4] << 21 | HDR_PID << 8 | P[17]` (R87). -/
  | candw (c : BitVec 29)
  /-- DECR: the tag bit and the object that goes with tag 1 (R90). -/
  | decr (tag : BitVec 1) (s : Section)
deriving DecidableEq, Repr

end Sys2Proof
end

