-- ==== Sys2Proof/Syntax.lean ====
section
/-! DEFINITION. The 21 operations of the block (R92), one constructor per row of spec/opcode_table.json. The
operands are the fields that the operation's input format carries (R80). -/

namespace Sys2Proof

/-- An operation with the fields of the input word that selects it. -/
inductive Instr where
  /-- START (R261), with the host's configuration inputs. -/
  | start (showNull : Bool) (pidFilter : Option Pid) (resync : Bool)
  /-- SYNC_EOS (R112). -/
  | syncEos
  /-- SYNC_ACCEPT (R111); `b` is the token's byte. -/
  | syncAccept (b : Byte)
  /-- SYNC_STOP (R113). -/
  | syncStop (b : Byte)
  /-- SYNC_SKIP (R114). -/
  | syncSkip (b : Byte)
  /-- PKT_TRUNC (R116). -/
  | pktTrunc
  /-- PKT_BYTE (R115). -/
  | pktByte (b : Byte)
  /-- HDR_DECODE (R130). -/
  | hdrDecode (h : Header)
  /-- PES_NO_PREFIX (R142). -/
  | pesNoPrefix (w : PesWindow)
  /-- PES_EXCLUDED (R143). -/
  | pesExcluded (w : PesWindow)
  /-- PES_NO_OPTHDR (R144). -/
  | pesNoOpthdr (w : PesWindow)
  /-- PES_NO_PTS (R145). -/
  | pesNoPts (w : PesWindow)
  /-- PES_BAD_TAG (R146). -/
  | pesBadTag (w : PesWindow)
  /-- PES_PTS (R147). -/
  | pesPts (w : PesWindow)
  /-- CAND_SKIP_MARKER (R171). -/
  | candSkipMarker (c : CandWindow)
  /-- CAND_SKIP_RESERVED (R172). -/
  | candSkipReserved (c : CandWindow)
  /-- CAND_SKIP_PIDLOCK (R173). -/
  | candSkipPidlock (c : CandWindow)
  /-- CAND_SKIP_NULL (R174). -/
  | candSkipNull (c : CandWindow)
  /-- CAND_ISSUE (R175). -/
  | candIssue (c : CandWindow)
  /-- DEC_OK (R176). -/
  | decOk (s : Section)
  /-- DEC_FAIL (R177). -/
  | decFail
deriving DecidableEq, Repr

end Sys2Proof
end

