-- ==== Sys2Proof/WellFormed.lean ====
section
/-! DEFINITION. Which operand values each operation admits: the condition column of R92 as far as it reads the input
word and the parameters of R12. The part of the condition that reads registers is `Instr.enabledIn` of Decode.lean. -/

namespace Sys2Proof

/-- The window passes the tests of R141 before the stream-id test. -/
def PesWindow.hasStartCode (w : PesWindow) : Bool := decide (w.startCode = Config.pesStartCode)

/-- The window passes the tests of R141 up to the stream-id test. -/
def PesWindow.admitted (p : Params) (w : PesWindow) : Bool :=
  w.hasStartCode && decide (w.streamId ∉ p.excludedIds)

/-- The operand conditions of R92, row by row. -/
def Instr.wellFormed (p : Params) : Instr → Bool
  | .start _ _ _ => true
  | .syncEos => true
  | .syncAccept b => decide (b = p.syncByte)
  | .syncStop b => decide (b ≠ p.syncByte)
  | .syncSkip b => decide (b ≠ p.syncByte)
  | .pktTrunc => true
  | .pktByte _ => true
  | .hdrDecode _ => true
  | .pesNoPrefix w => !w.hasStartCode
  | .pesExcluded w => w.hasStartCode && decide (w.streamId ∈ p.excludedIds)
  | .pesNoOpthdr w => w.admitted p && decide (w.optMarker ≠ 0b10#2)
  | .pesNoPts w => w.admitted p && decide (w.optMarker = 0b10#2) && decide (w.ptsFlags ≠ 0b10#2)
  | .pesBadTag w =>
      w.admitted p && decide (w.optMarker = 0b10#2) && decide (w.ptsFlags = 0b10#2) && decide (w.ptsTag ≠ 2#4)
  | .pesPts w =>
      w.admitted p && decide (w.optMarker = 0b10#2) && decide (w.ptsFlags = 0b10#2) && decide (w.ptsTag = 2#4)
  | .candSkipMarker c => decide (c.marker ≠ Config.candMarker)
  | .candSkipReserved c => decide (c.marker = Config.candMarker) && decide (c.pid = Config.reservedPid)
  | .candSkipPidlock c => decide (c.marker = Config.candMarker) && decide (c.pid ≠ Config.reservedPid)
  | .candSkipNull c =>
      decide (c.marker = Config.candMarker) && decide (c.pid ≠ Config.reservedPid) && decide (c.nullByte = 0)
  | .candIssue c => decide (c.marker = Config.candMarker) && decide (c.pid ≠ Config.reservedPid)
  | .decOk _ => true
  | .decFail => true

end Sys2Proof
end

