-- ==== Sys2Proof/Decode.lean ====
section
/-! DEFINITION. The decoder: which operation an input word selects (R92, R93), and the encoder written from the same
format tables (R81 to R90). The words of the formats and their fields stand first. -/

namespace Sys2Proof

/-! ### Fields of the formats -/

/-- Bits `k` to `k + n - 1` of the media-packet window, where position 0 is the most significant bit of `P[3]` and
the first bit read becomes the most significant bit of the field (R61, R84). -/
def windowField (w : BitVec 112) (k n : Nat) : BitVec n := w.extractLsb' (112 - k - n) n

/-- A source token as 9 bits: bit 8 is EOS and then bits 7 to 0 are 0 (R81). -/
def Token.toWord : Token → BitVec 9
  | .byte b => 0#1 ++ b
  | .eos => 0x100#9

/-- The token a 9-bit word stands for. The mask of the EOS rows is 0x100, so bits 7 to 0 of an EOS word are not looked
at. DEDUCED, safe: log 17. -/
def Token.ofWord (t : BitVec 9) : Token := if t.getLsbD 8 then .eos else .byte (t.extractLsb' 0 8)

/-- One bit as a flag. -/
def bitFlag (b : BitVec 1) : Bool := b.getLsbD 0

/-- The transport packet header's fields (R82, R83). -/
def Header.ofWord (h : BitVec 24) : Header where
  tei := bitFlag (h.extractLsb' 23 1)
  pusi := bitFlag (h.extractLsb' 22 1)
  prio := bitFlag (h.extractLsb' 21 1)
  pid := h.extractLsb' 8 13
  tsc := h.extractLsb' 6 2
  afc := h.extractLsb' 4 2
  cc := h.extractLsb' 0 4

/-- The header word of the fields, by the table of R82. -/
def Header.toWord (h : Header) : BitVec 24 :=
  BitVec.ofBool h.tei ++ BitVec.ofBool h.pusi ++ BitVec.ofBool h.prio ++ h.pid ++ h.tsc ++ h.afc ++ h.cc

/-- The media-packet window's fields, by the table of R84. -/
def PesWindow.ofWord (w : BitVec 112) : PesWindow where
  startCode := windowField w 0 24
  streamId := windowField w 24 8
  pesLength := windowField w 32 16
  optMarker := windowField w 48 2
  pesScrambling := windowField w 50 2
  pesPriority := windowField w 52 1
  alignment := windowField w 53 1
  copyright := windowField w 54 1
  original := windowField w 55 1
  ptsFlags := windowField w 56 2
  skip14 := windowField w 58 14
  ptsTag := windowField w 72 4
  ptsHi := windowField w 76 3
  marker1 := windowField w 79 1
  ptsMid := windowField w 80 15
  marker2 := windowField w 95 1
  ptsLo := windowField w 96 15
  marker3 := windowField w 111 1

/-- The window word of the fields, in the order of R84. -/
def PesWindow.toWord (w : PesWindow) : BitVec 112 :=
  w.startCode ++ w.streamId ++ w.pesLength ++ w.optMarker ++ w.pesScrambling ++ w.pesPriority ++ w.alignment
    ++ w.copyright ++ w.original ++ w.ptsFlags ++ w.skip14 ++ w.ptsTag ++ w.ptsHi ++ w.marker1 ++ w.ptsMid
    ++ w.marker2 ++ w.ptsLo ++ w.marker3

/-- The candidate filter's three inputs (R87). -/
def CandWindow.ofWord (c : BitVec 29) : CandWindow where
  marker := c.extractLsb' 21 8
  pid := c.extractLsb' 8 13
  nullByte := c.extractLsb' 0 8

/-- `C = P[4] << 21 | HDR_PID << 8 | P[17]` (R87). -/
def CandWindow.toWord (c : CandWindow) : BitVec 29 := c.marker ++ c.pid ++ c.nullByte

/-- The decoder response as a tag bit and an object (R90). -/
def Response.toWord : Response → InputWord
  | .ok s => .decr 1 s
  | .fail => .decr 0 Section.first

/-! ### What selects an operation besides the word -/

/-- The registers and parameters that the conditions of R92 read. -/
structure Context where
  fsm : Fsm
  resync : Bool
  lockValid : Bool
  lockPid : Pid
  showNull : Bool
  params : Params
deriving DecidableEq, Repr

/-- Why an input word selects no operation. -/
inductive DecodeError where
  /-- A HOST word with `start` not asserted (R80, R261). -/
  | startNotAsserted
  /-- The state reads no word of this format (R92). -/
  | formatNotRead (state : Fsm)
deriving DecidableEq, Repr

/-- The PID check of R173 holds. -/
def Context.pidLocked (c : Context) (pid : Pid) : Bool := c.lockValid && decide (pid ≠ c.lockPid)

/-- The state column of R92 and the register part of each condition. -/
def Instr.enabledIn (c : Context) : Instr → Bool
  | .start _ _ _ => decide (c.fsm = .idle) || decide (c.fsm = .done)
  | .syncEos => decide (c.fsm = .seekSync)
  | .syncAccept _ => decide (c.fsm = .seekSync)
  | .syncStop _ => decide (c.fsm = .seekSync) && !c.resync
  | .syncSkip _ => decide (c.fsm = .seekSync) && c.resync
  | .pktTrunc => decide (c.fsm = .readPacket)
  | .pktByte _ => decide (c.fsm = .readPacket)
  | .hdrDecode _ => decide (c.fsm = .processHeader)
  | .pesNoPrefix _ => decide (c.fsm = .processPes)
  | .pesExcluded _ => decide (c.fsm = .processPes)
  | .pesNoOpthdr _ => decide (c.fsm = .processPes)
  | .pesNoPts _ => decide (c.fsm = .processPes)
  | .pesBadTag _ => decide (c.fsm = .processPes)
  | .pesPts _ => decide (c.fsm = .processPes)
  | .candSkipMarker _ => decide (c.fsm = .processCandidate)
  | .candSkipReserved _ => decide (c.fsm = .processCandidate)
  | .candSkipPidlock w => decide (c.fsm = .processCandidate) && c.pidLocked w.pid
  | .candSkipNull w => decide (c.fsm = .processCandidate) && !c.pidLocked w.pid && !c.showNull
  | .candIssue w =>
      decide (c.fsm = .processCandidate) && !c.pidLocked w.pid && !(!c.showNull && decide (w.nullByte = 0))
  | .decOk _ => decide (c.fsm = .waitDecoder)
  | .decFail => decide (c.fsm = .waitDecoder)

/-! ### The decoder -/

/-- The SEEK_SYNC rows of R92. -/
def decodeSeekSync (c : Context) : Token → Instr
  | .eos => .syncEos
  | .byte b => if b = c.params.syncByte then .syncAccept b else if c.resync then .syncSkip b else .syncStop b

/-- The READ_PACKET rows of R92. -/
def decodeReadPacket : Token → Instr
  | .eos => .pktTrunc
  | .byte b => .pktByte b

/-- The PROCESS_PES rows of R92, in the order of R141. -/
def decodePes (c : Context) (w : PesWindow) : Instr :=
  if w.startCode ≠ Config.pesStartCode then .pesNoPrefix w
  else if w.streamId ∈ c.params.excludedIds then .pesExcluded w
  else if w.optMarker ≠ 0b10#2 then .pesNoOpthdr w
  else if w.ptsFlags ≠ 0b10#2 then .pesNoPts w
  else if w.ptsTag ≠ 2#4 then .pesBadTag w
  else .pesPts w

/-- The PROCESS_CANDIDATE rows of R92, in the order of R170. -/
def decodeCandidate (c : Context) (w : CandWindow) : Instr :=
  if w.marker ≠ Config.candMarker then .candSkipMarker w
  else if w.pid = Config.reservedPid then .candSkipReserved w
  else if c.pidLocked w.pid then .candSkipPidlock w
  else if !c.showNull && decide (w.nullByte = 0) then .candSkipNull w
  else .candIssue w

/-- The operation an input word selects (R92). A HOST word comes by the host's own port and is read in every state:
whether START then has a step is START's own rule (R262). -/
def decode (c : Context) : InputWord → Except DecodeError Instr
  | .host st cfg =>
      if st = 1 then .ok (.start cfg.showNull cfg.pidFilter cfg.resync) else .error .startNotAsserted
  | .src t =>
      match c.fsm with
      | .seekSync => .ok (decodeSeekSync c (Token.ofWord t))
      | .readPacket => .ok (decodeReadPacket (Token.ofWord t))
      | f => .error (.formatNotRead f)
  | .tsh h => if c.fsm = .processHeader then .ok (.hdrDecode (Header.ofWord h)) else .error (.formatNotRead c.fsm)
  | .pesw w => if c.fsm = .processPes then .ok (decodePes c (PesWindow.ofWord w)) else .error (.formatNotRead c.fsm)
  | .candw w =>
      if c.fsm = .processCandidate then .ok (decodeCandidate c (CandWindow.ofWord w))
      else .error (.formatNotRead c.fsm)
  | .decr tag s =>
      if c.fsm = .waitDecoder then .ok (if tag = 1 then .decOk s else .decFail) else .error (.formatNotRead c.fsm)

/-! ### The encoder -/

/-- The input word that carries an operation's operands, in the format its row of R92 names. -/
def encode : Instr → InputWord
  | .start n p r => .host 1 ⟨n, p, r⟩
  | .syncEos => .src Token.eos.toWord
  | .syncAccept b => .src (Token.byte b).toWord
  | .syncStop b => .src (Token.byte b).toWord
  | .syncSkip b => .src (Token.byte b).toWord
  | .pktTrunc => .src Token.eos.toWord
  | .pktByte b => .src (Token.byte b).toWord
  | .hdrDecode h => .tsh h.toWord
  | .pesNoPrefix w => .pesw w.toWord
  | .pesExcluded w => .pesw w.toWord
  | .pesNoOpthdr w => .pesw w.toWord
  | .pesNoPts w => .pesw w.toWord
  | .pesBadTag w => .pesw w.toWord
  | .pesPts w => .pesw w.toWord
  | .candSkipMarker c => .candw c.toWord
  | .candSkipReserved c => .candw c.toWord
  | .candSkipPidlock c => .candw c.toWord
  | .candSkipNull c => .candw c.toWord
  | .candIssue c => .candw c.toWord
  | .decOk s => (Response.ok s).toWord
  | .decFail => Response.fail.toWord

/-- The word has no bit set that its format leaves without a meaning: an EOS token's low bits are 0 (R81), a `Fail`
carries no object (R90), and a HOST word asserts `start`. -/
def InputWord.canonical : InputWord → Bool
  | .host st _ => decide (st = 1)
  | .src t => !t.getLsbD 8 || decide (t = 0x100#9)
  | .decr tag s => decide (tag = 1) || decide (s = Section.first)
  | .tsh _ => true
  | .pesw _ => true
  | .candw _ => true

/-! ### The opcode table's own words -/

/-- The input word that the table's number `w` of `nbits` bits stands for. The table tells the formats of one width
apart by the FSM state alone, which a bare number does not carry. DESIGN CHOICE, safe: log 14. -/
def tableInput (nbits w : Nat) : Option InputWord :=
  if nbits ≤ 8 then some (if w.testBit 0 then .host 1 {} else .decr 0 Section.first)
  else if nbits ≤ 16 then some (.src (BitVec.ofNat 9 w))
  else if nbits ≤ 24 then some (.tsh (BitVec.ofNat 24 w))
  else if nbits ≤ 32 then some (if w < 2 ^ 25 then .tsh (BitVec.ofNat 24 w) else .candw (BitVec.ofNat 29 w))
  else if nbits ≤ 112 then some (.pesw (BitVec.ofNat 112 w))
  else none

/-- The state that reads a table word: the first state of R92 that reads the word's format. -/
def tableState : InputWord → Fsm
  | .host _ _ => .idle
  | .src _ => .seekSync
  | .tsh _ => .processHeader
  | .pesw _ => .processPes
  | .candw _ => .processCandidate
  | .decr _ _ => .waitDecoder

/-- The registers and parameters under which a table word is read: those after a START with null packets suppressed and
the other inputs at their defaults (R39), so that a CANDW word's null byte tells CAND_SKIP_NULL from CAND_ISSUE, and the
parameters' defaults (R12). Log 14. -/
def tableContext (i : InputWord) : Context where
  fsm := tableState i
  resync := false
  lockValid := false
  lockPid := 0
  showNull := false
  params := {}

/-- The operation the decoder reads from a word of the opcode table. -/
def decodeTableWord (nbits w : Nat) : Option Instr :=
  match tableInput nbits w with
  | none => none
  | some i => (decode (tableContext i) i).toOption

end Sys2Proof
end

