-- ==== Sys2Proof/Machine/State.lean ====
section
/-! DEFINITION. The state of TSDEMUX: every register, buffer and queue of 10_state.md, the ports of 44_stream_driver.md
with what stands at them, the parameters of R12, and four fields of the model's own (INVENTORY.md lists each). -/

namespace Sys2Proof.Machine

/-- The packet buffer `P` (R27, R60): offset and byte, offsets strictly rising below 187, no byte listed that equals
what an unlisted offset reads as (`Memory.wf`). -/
abbrev Memory := List Host.Cell

/-- The diagnostic counters by name (R34). -/
inductive Counter where
  | pkt | pts | sections | skipMarker | skipReserved | skipPidlock | skipNull | decFail | resync
deriving DecidableEq, Repr

/-- The nine diagnostic counters (R34). -/
structure Counters where
  pkt : Count := 0
  pts : Count := 0
  sections : Count := 0
  skipMarker : Count := 0
  skipReserved : Count := 0
  skipPidlock : Count := 0
  skipNull : Count := 0
  decFail : Count := 0
  resync : Count := 0
deriving DecidableEq, Repr

/-- The registers the host may read (R36). -/
inductive StatusReg where
  | fsm | doneReason | lockValid | lockPid | lastPtsValid | lastPts | lastSectionValid | lastSection
  | cfgShowNull | cfgPidFilterEn | cfgPidFilter | cfgResync
  | counter (c : Counter)
deriving DecidableEq, Repr

/-- What a status read gives: a register's bits as an unsigned number (R14), or the decoded object. -/
inductive StatusValue where
  | bits (v : Nat)
  | object (s : Section)
deriving DecidableEq, Repr

/-- What the host can do (R206, R207, R263). -/
inductive HostAction where
  /-- Set the configuration inputs. -/
  | configure (c : StreamConfig)
  /-- Connect the byte source of a new stream. -/
  | connect
  /-- Assert `start` (R261). -/
  | start
  /-- Read a status register (R36). -/
  | read (r : StatusReg)
deriving DecidableEq, Repr

/-- Which agent moves, and how (R208). -/
inductive Turn where
  /-- The block performs the operation its state selects, or holds. -/
  | block
  /-- The source offers a token. -/
  | source (t : Token)
  /-- The decoder answers the outstanding request. -/
  | decoder (r : Response)
  /-- The sink removes the head event. -/
  | sink
  | host (a : HostAction)
deriving DecidableEq, Repr

/-- Why a step stops. No operation of the table raises one in a state that a run from reset reaches (R230). -/
inductive Fault where
  /-- PKT_BYTE with `PKT_CNT` outside 0..186 (R115): the buffer has no such offset (R60). Raised by `storeByte`, in no
  state that a run reaches. Safe: log 11. -/
  | noSuchOffset (offset : Nat)
  /-- After START the host reads LOCK_PID, LAST_PTS or LAST_SECTION while its valid bit is 0: "A model should fault a
  read of an unspecified register rather than give it a value" (R40; R39, I10). Raised by `hostReads`. Safe: log 10. -/
  | unspecifiedRead (r : StatusReg)
deriving DecidableEq, Repr

/-- Why an operation has no meaning in the model. -/
inductive Refusal where
  /-- An operation that has not been modelled: raised by an arm of `exec` alone, and by no arm now. Safe. -/
  | notModelled (mnemonic : String)
deriving DecidableEq, Repr

structure State where
  /-- `CFG_SHOW_NULL`, R20. -/
  cfgShowNull : Bool
  /-- `CFG_PID_FILTER_EN`, R21. -/
  cfgPidFilterEn : Bool
  /-- `CFG_PID_FILTER`, R21. -/
  cfgPidFilter : Pid
  /-- `CFG_RESYNC`, R22. -/
  cfgResync : Bool
  /-- `FSM`, R25. -/
  fsm : Fsm
  /-- `PKT_CNT`, R26. -/
  pktCnt : BitVec 8
  /-- `P`, R27. -/
  buf : Memory
  /-- The seven `HDR_*` registers, R28. -/
  hdr : Header
  /-- `LOCK_VALID`, R29. -/
  lockValid : Bool
  /-- `LOCK_PID`, R29. -/
  lockPid : Pid
  /-- `LAST_PTS_VALID`, R30. -/
  lastPtsValid : Bool
  /-- `LAST_PTS`, R30. -/
  lastPts : Ticks
  /-- `LAST_SECTION_VALID`, R31. -/
  lastSectionValid : Bool
  /-- `LAST_SECTION`, R31. -/
  lastSection : Section
  /-- `DONE_REASON`, R32. -/
  doneReason : DoneReason
  /-- `EVQ`, head first, R33. -/
  evq : List Event
  /-- The diagnostic counters, R34. -/
  cnt : Counters
  /-- The parameters of R12; no step writes them. -/
  params : Params
  /-- The host's configuration inputs, R206. They stand until the host sets them again: log 26. -/
  hostIn : StreamConfig
  /-- The source port: bytes offered and not yet taken, next first, R202. -/
  srcBytes : List Byte
  /-- The source port: EOS follows the offered bytes, and stays, R202. -/
  srcEos : Bool
  /-- The decoder port: the outstanding request's bytes, R203. -/
  decReq : Option (List Byte)
  /-- The decoder port: the decoder's answers to the outstanding request and those after it, in order, R203. -/
  decAnswers : List Response
  /-- The model's own: what the sink has removed since the last START (R209). -/
  sinkSeen : List Event
  /-- The model's own: what the host has read (R207). -/
  hostSeen : List (StatusReg × StatusValue)
  /-- The model's own: the host asserted `start` mid-stream (I11). -/
  hostRefused : Bool
  /-- The model's own: which agents move next; with none listed, the block moves (R208). -/
  turns : List Turn
deriving DecidableEq, Repr

/-- The machine after power-on (R39, R260). FSM, DONE_REASON and EVQ are the spec's; the parameters and the host's
inputs stand at the spec's defaults; every register the spec leaves unspecified holds zero.
DESIGN CHOICE, unsafe: logs 1 and 2. -/
def State.reset : State where
  cfgShowNull := false
  cfgPidFilterEn := false
  cfgPidFilter := 0
  cfgResync := false
  fsm := .idle
  pktCnt := 0
  buf := []
  hdr := ⟨false, false, false, 0, 0, 0, 0⟩
  lockValid := false
  lockPid := 0
  lastPtsValid := false
  lastPts := 0
  lastSectionValid := false
  lastSection := Section.first
  doneReason := .notEnded
  evq := []
  cnt := {}
  params := {}
  hostIn := {}
  srcBytes := []
  srcEos := false
  decReq := none
  decAnswers := []
  sinkSeen := []
  hostSeen := []
  hostRefused := false
  turns := []

end Sys2Proof.Machine
end

