-- ==== Sys2Proof/Machine/Operands.lean ====
section
/-! DEFINITION. What an operation reads: the packet buffer and its windows (R60, R67), the source token (R202), the
decoder's response (R203), the input word each state reads (R92), and the timestamp assembly (R86). -/

namespace Sys2Proof.Machine

/-! ### The packet buffer -/

/-- What an unlisted offset of the buffer reads as: R39 leaves the buffer unspecified at power-on.
DESIGN CHOICE, unsafe: log 2. -/
def Memory.unlisted : Byte := 0

/-- `P[a]` (R16). -/
def Memory.read : Memory → Nat → Byte
  | [], _ => Memory.unlisted
  | (k, v) :: m, a => if k = a then v else Memory.read m a

/-- `P[a] <- b` (R16), keeping the canonical form. -/
def Memory.write : Memory → Nat → Byte → Memory
  | [], a, b => if b = Memory.unlisted then [] else [(a, b)]
  | (k, v) :: m, a, b =>
      if a < k then (if b = Memory.unlisted then (k, v) :: m else (a, b) :: (k, v) :: m)
      else if a = k then (if b = Memory.unlisted then m else (a, b) :: m)
      else (k, v) :: Memory.write m a b

/-- The canonical form from offset `lo` on: offsets rise, lie in the buffer, and list no unlisted value. -/
def Memory.wfFrom : Nat → Memory → Bool
  | _, [] => true
  | lo, (k, v) :: m =>
      decide (lo ≤ k) && decide (k < Config.bufLen) && decide (v ≠ Memory.unlisted) && Memory.wfFrom (k + 1) m

/-- The canonical form of the packet buffer. -/
def Memory.wf (m : Memory) : Bool := Memory.wfFrom 0 m

/-- `P[o..o+n-1]`, in buffer order (R16). -/
def Memory.bytes (m : Memory) (o n : Nat) : List Byte := (List.range n).map fun i => Memory.read m (o + i)

/-- `H = P[0] ++ P[1] ++ P[2]` (R82). -/
def Memory.headerWord (m : Memory) : BitVec 24 := m.read 0 ++ m.read 1 ++ m.read 2

/-- `W = P[3] ++ … ++ P[16]` (R84, R140). -/
def Memory.pesWord (m : Memory) : BitVec 112 :=
  m.read 3 ++ m.read 4 ++ m.read 5 ++ m.read 6 ++ m.read 7 ++ m.read 8 ++ m.read 9 ++ m.read 10 ++ m.read 11
    ++ m.read 12 ++ m.read 13 ++ m.read 14 ++ m.read 15 ++ m.read 16

/-- The header fields as bits of `P[0]`, `P[1]`, `P[2]`: the second column of R82's table, and R83. The decoder reads
the word of the first column; this reading is for statements. -/
def Memory.headerOfBytes (m : Memory) : Header where
  tei := (m.read 0).getLsbD 7
  pusi := (m.read 0).getLsbD 6
  prio := (m.read 0).getLsbD 5
  pid := (m.read 0).extractLsb' 0 5 ++ m.read 1
  tsc := (m.read 2).extractLsb' 6 2
  afc := (m.read 2).extractLsb' 4 2
  cc := (m.read 2).extractLsb' 0 4

/-- The window's fields as the byte expressions of R85, with the five untested flag fields of `P[9]` by R84. The decoder
reads the 112-bit word of R84; this reading is for statements. -/
def Memory.windowOfBytes (m : Memory) : PesWindow where
  startCode := m.read 3 ++ m.read 4 ++ m.read 5
  streamId := m.read 6
  pesLength := m.read 7 ++ m.read 8
  optMarker := (m.read 9).extractLsb' 6 2
  pesScrambling := (m.read 9).extractLsb' 4 2
  pesPriority := (m.read 9).extractLsb' 3 1
  alignment := (m.read 9).extractLsb' 2 1
  copyright := (m.read 9).extractLsb' 1 1
  original := (m.read 9).extractLsb' 0 1
  ptsFlags := (m.read 10).extractLsb' 6 2
  skip14 := (m.read 10).extractLsb' 0 6 ++ m.read 11
  ptsTag := (m.read 12).extractLsb' 4 4
  ptsHi := (m.read 12).extractLsb' 1 3
  marker1 := (m.read 12).extractLsb' 0 1
  ptsMid := m.read 13 ++ (m.read 14).extractLsb' 1 7
  marker2 := (m.read 14).extractLsb' 0 1
  ptsLo := m.read 15 ++ (m.read 16).extractLsb' 1 7
  marker3 := (m.read 16).extractLsb' 0 1

/-- The candidate span `P[4..186]` (R88). -/
def Memory.candSpan (m : Memory) : List Byte := m.bytes Config.candSpanOffset Config.candSpanLen

/-! ### The ports -/

/-- The token the source offers: the next byte, or the sticky EOS once the bytes are taken (R202). -/
def State.token (s : State) : Option Token :=
  match s.srcBytes with
  | b :: _ => some (.byte b)
  | [] => if s.srcEos then some .eos else none

/-- The response the decoder offers to the outstanding request (R203). -/
def State.response (s : State) : Option Response :=
  match s.decReq with
  | none => none
  | some _ => s.decAnswers.head?

/-! ### The input word and the operation it selects -/

/-- The candidate filter's inputs: `P[4]`, `HDR_PID`, `P[17]` (R87). -/
def State.candWindow (s : State) : CandWindow where
  marker := s.buf.read Config.candMarkerOffset
  pid := s.hdr.pid
  nullByte := s.buf.read Config.nullCheckOffset

/-- The input word that the block's state reads, where one is offered (R80, R92). -/
def State.inputWord (s : State) : Option InputWord :=
  match s.fsm with
  | .idle => none
  | .seekSync => s.token.map fun t => .src t.toWord
  | .readPacket => s.token.map fun t => .src t.toWord
  | .processHeader => some (.tsh s.buf.headerWord)
  | .processPes => some (.pesw s.buf.pesWord)
  | .processCandidate => some (.candw s.candWindow.toWord)
  | .waitDecoder => s.response.map Response.toWord
  | .done => none

/-- The registers and parameters that R92's conditions read. -/
def State.context (s : State) : Context where
  fsm := s.fsm
  resync := s.cfgResync
  lockValid := s.lockValid
  lockPid := s.lockPid
  showNull := s.cfgShowNull
  params := s.params

/-- The operation the block's state selects (R92); none where no input is offered (R117) and in IDLE and DONE, whose
only operation is the host's START. -/
def State.selected (s : State) : Option Instr :=
  match s.inputWord with
  | none => none
  | some w => (decode s.context w).toOption

/-! ### Values computed from operands -/

/-- The timestamp assembly of R86: three shifted components, the marker bits taking no part. -/
def rawTicks (w : PesWindow) : Ticks :=
  (w.ptsHi.setWidth 33 <<< 30) ||| (w.ptsMid.setWidth 33 <<< 15) ||| w.ptsLo.setWidth 33


end Sys2Proof.Machine
end

