-- ==== Sys2Proof/Machine/Flags.lean ====
section
/-! DEFINITION. Codes and conditions. The block has no condition codes (R37): its 1-bit flags are fields of State, and
what stands here are the numeric codes of R25, R232 and R89 and the conditions computed from State that the rules
name (R33, R38, R40, R204, R209, R262). -/

namespace Sys2Proof.Machine

/-- The encoding of `FSM` (R25). -/
def fsmCode : Fsm → BitVec 3
  | .idle => 0
  | .seekSync => 1
  | .readPacket => 2
  | .processHeader => 3
  | .processPes => 4
  | .processCandidate => 5
  | .waitDecoder => 6
  | .done => 7

/-- The codes of `DONE_REASON` (R32, R232). -/
def doneCode : DoneReason → BitVec 2
  | .notEnded => 0
  | .endOfData => 1
  | .truncated => 2
  | .syncLoss => 3

/-- The tag of an event (R89). -/
def eventTag : Event → Nat
  | .ts _ => 0
  | .sec _ => 1

/-- `EVQ` has room for one event (R204). -/
def State.hasRoom (s : State) : Bool := decide (s.evq.length < s.params.fifoDepth)

/-- START is enabled (R262). -/
def State.startEnabled (s : State) : Bool := decide (s.fsm = .idle) || decide (s.fsm = .done)

/-- A decoder request is outstanding (R38). -/
def State.requestOutstanding (s : State) : Bool := decide (s.fsm = .waitDecoder)

/-- A packet is partly read (R38). -/
def State.partlyRead (s : State) : Bool := decide (s.fsm = .readPacket)

/-- The run of a stream has ended (R209). -/
def State.runEnded (s : State) : Bool := decide (s.fsm = .done) && s.evq.isEmpty

/-- The status register holds a specified value (R39, R40). IDLE stands only before the first START (R25), when R39
leaves every register but FSM and DONE_REASON unspecified. After START three registers wait for their valid bits;
CFG_PID_FILTER is ignored with the enable 0, but never unspecified. -/
def State.specified (s : State) : StatusReg → Bool
  | .fsm => true
  | .doneReason => true
  | .lockPid => decide (s.fsm ≠ .idle) && s.lockValid
  | .lastPts => decide (s.fsm ≠ .idle) && s.lastPtsValid
  | .lastSection => decide (s.fsm ≠ .idle) && s.lastSectionValid
  | .cfgPidFilter => decide (s.fsm ≠ .idle)
  | .lockValid => decide (s.fsm ≠ .idle)
  | .lastPtsValid => decide (s.fsm ≠ .idle)
  | .lastSectionValid => decide (s.fsm ≠ .idle)
  | .cfgShowNull => decide (s.fsm ≠ .idle)
  | .cfgPidFilterEn => decide (s.fsm ≠ .idle)
  | .cfgResync => decide (s.fsm ≠ .idle)
  | .counter _ => decide (s.fsm ≠ .idle)

/-- A status register answers a read (R36, R207). At power-on each one shows its value at reset (log 1); after
START one with its valid bit 0 does not (R40, I10; log 10). -/
def State.readable (s : State) (r : StatusReg) : Bool := decide (s.fsm = .idle) || s.specified r

/-- The value of a counter (R34). -/
def Counters.get (c : Counters) : Counter → Count
  | .pkt => c.pkt
  | .pts => c.pts
  | .sections => c.sections
  | .skipMarker => c.skipMarker
  | .skipReserved => c.skipReserved
  | .skipPidlock => c.skipPidlock
  | .skipNull => c.skipNull
  | .decFail => c.decFail
  | .resync => c.resync

/-- A counter increment, modulo 2^32 (R35). -/
def Counters.bump (c : Counters) : Counter → Counters
  | .pkt => { c with pkt := c.pkt + 1 }
  | .pts => { c with pts := c.pts + 1 }
  | .sections => { c with sections := c.sections + 1 }
  | .skipMarker => { c with skipMarker := c.skipMarker + 1 }
  | .skipReserved => { c with skipReserved := c.skipReserved + 1 }
  | .skipPidlock => { c with skipPidlock := c.skipPidlock + 1 }
  | .skipNull => { c with skipNull := c.skipNull + 1 }
  | .decFail => { c with decFail := c.decFail + 1 }
  | .resync => { c with resync := c.resync + 1 }

/-- A register's bits, or the decoded object, as the status port shows it (R36). -/
def State.statusValue (s : State) : StatusReg → StatusValue
  | .fsm => .bits (fsmCode s.fsm).toNat
  | .doneReason => .bits (doneCode s.doneReason).toNat
  | .lockValid => .bits s.lockValid.toNat
  | .lockPid => .bits s.lockPid.toNat
  | .lastPtsValid => .bits s.lastPtsValid.toNat
  | .lastPts => .bits s.lastPts.toNat
  | .lastSectionValid => .bits s.lastSectionValid.toNat
  | .lastSection => .object s.lastSection
  | .cfgShowNull => .bits s.cfgShowNull.toNat
  | .cfgPidFilterEn => .bits s.cfgPidFilterEn.toNat
  | .cfgPidFilter => .bits s.cfgPidFilter.toNat
  | .cfgResync => .bits s.cfgResync.toNat
  | .counter c => .bits (s.cnt.get c).toNat

end Sys2Proof.Machine
end

