-- ==== Sys2Proof/Machine/Ops.lean ====
section
/-! DEFINITION. The operations on state that the meanings share: the pseudocode primitives of R16 (SrcRead, the buffer
write, DecRequest, DecResponse, Emit, terminate, skip), counters, and the register writes of the rules. The block has
no exception and no return from one (R230, R237, R238): `terminate` is what stands in their place. -/

namespace Sys2Proof.Machine

/-- What one step of this machine answers. -/
abbrev Result := Host.Outcome State Fault Refusal

/-- `FSM <- f` (R16). -/
def State.goto (s : State) (f : Fsm) : State := { s with fsm := f }

/-- `PKT_CNT <- n` (R26). -/
def State.setPktCnt (s : State) (n : BitVec 8) : State := { s with pktCnt := n }

/-- `SrcRead()`: the offered token is taken; EOS stays (R16, R202). -/
def State.srcRead (s : State) : State := { s with srcBytes := s.srcBytes.tail }

/-- `CNT <- (CNT + 1) mod 2^32` (R35). -/
def State.count (s : State) (c : Counter) : State := { s with cnt := s.cnt.bump c }

/-- `terminate(reason)` (R231). -/
def State.terminate (s : State) (r : DoneReason) : State := { s with doneReason := r, fsm := .done }

/-- `skip(reason)`: the reason's counter, and the next packet (R170). -/
def State.skip (s : State) (c : Counter) : State := (s.count c).goto .seekSync

/-- The buffer with one byte written. -/
def State.withByte (s : State) (a : Nat) (b : Byte) : State := { s with buf := s.buf.write a b }

/-- `P[a] <- b`, and then the rest of the operation; the buffer has the offsets 0 to 186 only (R60).
The fault is DEDUCED, safe: log 11. -/
def State.storeByte (s : State) (a : Nat) (b : Byte) (k : State → Result) : Result :=
  if a < Config.bufLen then k (s.withByte a b) else .fault (.noSuchOffset a)

/-- The seven `HDR_*` registers, written together (R28). -/
def State.setHdr (s : State) (h : Header) : State := { s with hdr := h }

/-- `LAST_PTS <- raw; LAST_PTS_VALID <- 1` (R147). -/
def State.latchPts (s : State) (raw : Ticks) : State := { s with lastPts := raw, lastPtsValid := true }

/-- `LAST_SECTION <- s; LAST_SECTION_VALID <- 1` (R176). -/
def State.latchSection (s : State) (x : Section) : State := { s with lastSection := x, lastSectionValid := true }

/-- `Emit(ev)`: at the tail of `EVQ` (R204). -/
def State.emit (s : State) (e : Event) : State := { s with evq := s.evq ++ [e] }

/-- A step that emits is enabled only while `EVQ` has room, and otherwise holds (R151, R204). -/
def State.whenRoom (s : State) (k : State → Result) : Result := if s.hasRoom then k s else .next s

/-- `if LOCK_VALID == 0: LOCK_PID <- HDR_PID; LOCK_VALID <- 1` (R176). -/
def State.lockIfNone (s : State) : State :=
  { s with lockPid := if s.lockValid then s.lockPid else s.hdr.pid, lockValid := true }

/-- `DecRequest(span)`: the span goes to the decoder as one message (R203). -/
def State.decRequest (s : State) (span : List Byte) : State := { s with decReq := some span }

/-- `DecResponse()`: the answer is taken and the request is no longer outstanding (R203). -/
def State.decResponse (s : State) : State := { s with decReq := none, decAnswers := s.decAnswers.tail }

/-- The register writes of START (R261). `P`, `HDR_*`, `LAST_PTS`, `LAST_SECTION` and, with no filter, `LOCK_PID` and
`CFG_PID_FILTER` keep their values. The observation of R209 begins anew: DESIGN CHOICE, safe: log 13. The ports are
not written: a START in DONE without a fresh connect (against R263) meets what the old stream left there, its unread
bytes, its EOS and its unused decoder answers. DESIGN CHOICE, unsafe: log 24. Nor does it write the host's inputs: they
are not put back to the defaults of R20 to R22 for the next START. DESIGN CHOICE, unsafe: log 26. -/
def State.openStream (s : State) (c : StreamConfig) : State :=
  { s with
    cfgShowNull := c.showNull
    cfgResync := c.resync
    cfgPidFilterEn := c.pidFilter.isSome
    cfgPidFilter := c.pidFilter.getD s.cfgPidFilter
    lockValid := c.pidFilter.isSome
    lockPid := c.pidFilter.getD s.lockPid
    lastPtsValid := false
    lastSectionValid := false
    doneReason := .notEnded
    pktCnt := 0
    cnt := {}
    evq := []
    fsm := .seekSync
    sinkSeen := [] }

/-- A `start` mid-stream has no step: nothing of the block changes, and the run is marked (R262, I11).
DESIGN CHOICE, safe: log 9. -/
def State.refuseStart (s : State) : State := { s with hostRefused := true }

/-- An operation takes place only where the state and its input select it; anywhere else the block holds, with no
register changed (R200). DEDUCED, safe: log 12. -/
def State.perform (s : State) (i : Instr) (effect : State → Result) : Result :=
  if s.selected = some i then effect s else .next s

end Sys2Proof.Machine
end

