-- ==== Sys2Proof/Machine/Agents.lean ====
section
/-! DEFINITION. The steps of the agents other than the block (R208): the source, the decoder, the sink, and the host
apart from START. Each writes only its own port; none writes a register of the block (R41). -/

namespace Sys2Proof.Machine

/-- The source offers a token: a byte behind those already offered, or the end of the stream. After EOS it offers no
byte (R202). -/
def State.sourceOffers (s : State) : Token → State
  | .byte b => if s.srcEos then s else { s with srcBytes := s.srcBytes ++ [b] }
  | .eos => { s with srcEos := true }

/-- The decoder answers the outstanding request, once (R203). DEDUCED, safe: log 15. -/
def State.decoderAnswers (s : State) (r : Response) : State :=
  if s.decReq.isSome && s.decAnswers.isEmpty then { s with decAnswers := [r] } else s

/-- The sink removes the head event (R205). -/
def State.sinkRemoves (s : State) : State :=
  match s.evq with
  | [] => s
  | e :: rest => { s with evq := rest, sinkSeen := s.sinkSeen ++ [e] }

/-- The host sets its configuration inputs, all three at once, which nothing reads before the next START (R23). They
stand for every later START until they are set again. DESIGN CHOICE, unsafe: log 26. -/
def State.hostConfigures (s : State) (c : StreamConfig) : State := { s with hostIn := c }

/-- The host connects the byte source of a new stream, before START (R263). In mid-stream the model gives this no
step. DESIGN CHOICE, safe: log 16. -/
def State.hostConnects (s : State) : State :=
  if s.startEnabled then { s with srcBytes := [], srcEos := false } else s

/-- The host reads a status register, without side effect on the block (R36, R207). After START, a read of
LOCK_PID, LAST_PTS or LAST_SECTION with its valid bit 0 faults (R39, R40, I10). Safe: logs 10 and 22. -/
def State.hostReads (s : State) (r : StatusReg) : Result :=
  if s.readable r then .next { s with hostSeen := s.hostSeen ++ [(r, s.statusValue r)] }
  else .fault (.unspecifiedRead r)

end Sys2Proof.Machine
end

