-- ==== Sys2Proof/Machine/CandidateFilter.lean ====
section
/-! DEFINITION. The CandidateFilter's operations (43_candidate_filter.md). -/

namespace Sys2Proof.Machine

/-- CAND_SKIP_MARKER (R171). -/
def execCandSkipMarker (c : CandWindow) (s : State) : Result :=
  s.perform (.candSkipMarker c) fun s => .next (s.skip .skipMarker)

/-- CAND_SKIP_RESERVED (R172). -/
def execCandSkipReserved (c : CandWindow) (s : State) : Result :=
  s.perform (.candSkipReserved c) fun s => .next (s.skip .skipReserved)

/-- CAND_SKIP_PIDLOCK (R173). -/
def execCandSkipPidlock (c : CandWindow) (s : State) : Result :=
  s.perform (.candSkipPidlock c) fun s => .next (s.skip .skipPidlock)

/-- CAND_SKIP_NULL (R174). -/
def execCandSkipNull (c : CandWindow) (s : State) : Result :=
  s.perform (.candSkipNull c) fun s => .next (s.skip .skipNull)

/-- CAND_ISSUE (R175). -/
def execCandIssue (c : CandWindow) (s : State) : Result :=
  s.perform (.candIssue c) fun s => .next ((s.decRequest s.buf.candSpan).goto .waitDecoder)

/-- DEC_OK (R176); while `EVQ` is full the response waits on the port. -/
def execDecOk (x : Section) (s : State) : Result :=
  s.perform (.decOk x) fun s => s.whenRoom fun s =>
    .next (((((s.decResponse.latchSection x).count .sections).emit (.sec x)).lockIfNone).goto .seekSync)

/-- DEC_FAIL (R177). -/
def execDecFail (s : State) : Result :=
  s.perform .decFail fun s => .next ((s.decResponse.count .decFail).goto .seekSync)

end Sys2Proof.Machine
end

