-- ==== Sys2Proof/Machine/HeaderParser.lean ====
section
/-! DEFINITION. The PacketHeaderParser's operation (41_header_parser.md). -/

namespace Sys2Proof.Machine

/-- The branch after the header (R132). -/
def afterHeader (pusi : Bool) : Fsm := if pusi then .processPes else .processCandidate

/-- HDR_DECODE (R130). -/
def execHdrDecode (h : Header) (s : State) : Result :=
  s.perform (.hdrDecode h) fun s => .next ((s.setHdr h).goto (afterHeader h.pusi))

end Sys2Proof.Machine
end

