-- ==== Sys2Proof/Machine/StreamDriver.lean ====
section
/-! DEFINITION. The StreamDriver's host operation (70_reset_and_hazards.md). -/

namespace Sys2Proof.Machine

/-- START (R261), enabled only in IDLE and DONE (R262). -/
def execStart (showNull : Bool) (pidFilter : Option Pid) (resync : Bool) (s : State) : Result :=
  if s.startEnabled then .next (s.openStream ⟨showNull, pidFilter, resync⟩) else .next s.refuseStart

end Sys2Proof.Machine
end

