-- ==== Sys2Proof/Machine/Synchronizer.lean ====
section
/-! DEFINITION. The PacketSynchronizer's operations (40_synchronizer.md). -/

namespace Sys2Proof.Machine

/-- SYNC_EOS (R112). -/
def execSyncEos (s : State) : Result :=
  s.perform .syncEos fun s => .next (s.srcRead.terminate .endOfData)

/-- SYNC_ACCEPT (R111): the marker is not stored. -/
def execSyncAccept (b : Byte) (s : State) : Result :=
  s.perform (.syncAccept b) fun s => .next ((s.srcRead.setPktCnt 0).goto .readPacket)

/-- SYNC_STOP (R113): the byte is taken and discarded. -/
def execSyncStop (b : Byte) (s : State) : Result :=
  s.perform (.syncStop b) fun s => .next (s.srcRead.terminate .syncLoss)

/-- SYNC_SKIP (R114): the byte is discarded and the next one is tried. -/
def execSyncSkip (b : Byte) (s : State) : Result :=
  s.perform (.syncSkip b) fun s => .next ((s.srcRead.count .resync).goto .seekSync)

/-- The state after the byte is stored: `PKT_CNT` counts it, and the 187th byte completes the packet (R115). -/
def afterByte (s : State) : State :=
  let s := s.setPktCnt (s.pktCnt + 1)
  if s.pktCnt = 187 then (s.count .pkt).goto .processHeader else s.goto .readPacket

/-- PKT_BYTE (R115). -/
def execPktByte (b : Byte) (s : State) : Result :=
  s.perform (.pktByte b) fun s => s.srcRead.storeByte s.pktCnt.toNat b fun s => .next (afterByte s)

/-- PKT_TRUNC (R116): the bytes already read stay in the buffer and no rule reads them. -/
def execPktTrunc (s : State) : Result :=
  s.perform .pktTrunc fun s => .next (s.srcRead.terminate .truncated)

end Sys2Proof.Machine
end

