-- ==== Sys2Proof/Machine/TimestampExtractor.lean ====
section
/-! DEFINITION. The TimestampExtractor's operations (42_timestamp_extractor.md). -/

namespace Sys2Proof.Machine

/-- An outcome without a timestamp writes nothing but `FSM` (R149). -/
def noTimestamp (i : Instr) (s : State) : Result := s.perform i fun s => .next (s.goto .processCandidate)

/-- PES_NO_PREFIX (R142). -/
def execPesNoPrefix (w : PesWindow) (s : State) : Result := noTimestamp (.pesNoPrefix w) s

/-- PES_EXCLUDED (R143). -/
def execPesExcluded (w : PesWindow) (s : State) : Result := noTimestamp (.pesExcluded w) s

/-- PES_NO_OPTHDR (R144). -/
def execPesNoOpthdr (w : PesWindow) (s : State) : Result := noTimestamp (.pesNoOpthdr w) s

/-- PES_NO_PTS (R145). -/
def execPesNoPts (w : PesWindow) (s : State) : Result := noTimestamp (.pesNoPts w) s

/-- PES_BAD_TAG (R146). -/
def execPesBadTag (w : PesWindow) (s : State) : Result := noTimestamp (.pesBadTag w) s

/-- PES_PTS (R147), one atomic step that waits for room in `EVQ` (R151). -/
def execPesPts (w : PesWindow) (s : State) : Result :=
  s.perform (.pesPts w) fun s => s.whenRoom fun s =>
    .next ((((s.latchPts (rawTicks w)).count .pts).emit (.ts (rawTicks w))).goto .processCandidate)

end Sys2Proof.Machine
end

