-- ==== Sys2Proof/Machine/Dispatch.lean ====
section
/-! DEFINITION. The meaning of every operation: one arm per constructor of Instr. -/

namespace Sys2Proof.Machine

def exec (i : Instr) (s : State) : Host.Outcome State Fault Refusal :=
  match i with
  | .start n p r => Sys2Proof.Machine.execStart n p r s
  | .syncEos => Sys2Proof.Machine.execSyncEos s
  | .syncAccept b => Sys2Proof.Machine.execSyncAccept b s
  | .syncStop b => Sys2Proof.Machine.execSyncStop b s
  | .syncSkip b => Sys2Proof.Machine.execSyncSkip b s
  | .pktTrunc => Sys2Proof.Machine.execPktTrunc s
  | .pktByte b => Sys2Proof.Machine.execPktByte b s
  | .hdrDecode h => Sys2Proof.Machine.execHdrDecode h s
  | .pesNoPrefix w => Sys2Proof.Machine.execPesNoPrefix w s
  | .pesExcluded w => Sys2Proof.Machine.execPesExcluded w s
  | .pesNoOpthdr w => Sys2Proof.Machine.execPesNoOpthdr w s
  | .pesNoPts w => Sys2Proof.Machine.execPesNoPts w s
  | .pesBadTag w => Sys2Proof.Machine.execPesBadTag w s
  | .pesPts w => Sys2Proof.Machine.execPesPts w s
  | .candSkipMarker c => Sys2Proof.Machine.execCandSkipMarker c s
  | .candSkipReserved c => Sys2Proof.Machine.execCandSkipReserved c s
  | .candSkipPidlock c => Sys2Proof.Machine.execCandSkipPidlock c s
  | .candSkipNull c => Sys2Proof.Machine.execCandSkipNull c s
  | .candIssue c => Sys2Proof.Machine.execCandIssue c s
  | .decOk x => Sys2Proof.Machine.execDecOk x s
  | .decFail => Sys2Proof.Machine.execDecFail s

end Sys2Proof.Machine
end

