-- ==== Sys2Proof/Machine/Fetch.lean ====
section
/-! DEFINITION. How an operation is placed where the next step selects it: the input word at its port or in the buffer,
and the registers that R92 reads beside it. Step.lean's `State.withFetchWord` calls these. -/

namespace Sys2Proof.Machine

/-- The three bytes of a header word, `P[0]` first (R82). -/
def headerBytes (h : BitVec 24) : List Byte := [h.extractLsb' 16 8, h.extractLsb' 8 8, h.extractLsb' 0 8]

/-- The fourteen bytes of a window word, `P[3]` first (R84). -/
def pesBytes (w : BitVec 112) : List Byte :=
  [w.extractLsb' 104 8, w.extractLsb' 96 8, w.extractLsb' 88 8, w.extractLsb' 80 8, w.extractLsb' 72 8,
   w.extractLsb' 64 8, w.extractLsb' 56 8, w.extractLsb' 48 8, w.extractLsb' 40 8, w.extractLsb' 32 8,
   w.extractLsb' 24 8, w.extractLsb' 16 8, w.extractLsb' 8 8, w.extractLsb' 0 8]

/-- Bytes written from offset `o` on. -/
def Memory.writeBytes (m : Memory) (o : Nat) : List Byte → Memory
  | [] => m
  | b :: bs => Memory.writeBytes (m.write o b) (o + 1) bs

/-- A token at the head of what the source offers. -/
def State.offerToken (s : State) : Token → State
  | .byte b => { s with srcBytes := b :: s.srcBytes }
  | .eos => { s with srcBytes := [], srcEos := true }

/-- The registers and parameters that R92 reads, as a context gives them. -/
def State.withContext (s : State) (c : Context) : State :=
  { s with fsm := c.fsm, cfgResync := c.resync, lockValid := c.lockValid, lockPid := c.lockPid,
           cfgShowNull := c.showNull, params := { s.params with syncByte := c.params.syncByte,
                                                                excludedIds := c.params.excludedIds } }

/-- An input word placed where the state that reads it finds it. A HOST word is the host's next move, so that a word
with `start` asserted is START and a word without is no move. -/
def State.placeInput (s : State) : InputWord → State
  | .host st cfg => { s with hostIn := cfg, turns := if st = 1 then [.host .start] else [] }
  | .src t => { s.offerToken (Token.ofWord t) with turns := [] }
  | .tsh h => { s with buf := s.buf.writeBytes 0 (headerBytes h), turns := [] }
  | .pesw w => { s with buf := s.buf.writeBytes Config.pesOffset (pesBytes w), turns := [] }
  | .candw c =>
      let w := CandWindow.ofWord c
      { s with
        buf := (s.buf.write Config.candMarkerOffset w.marker).write Config.nullCheckOffset w.nullByte
        hdr := { s.hdr with pid := w.pid }
        turns := [] }
  | .decr tag x =>
      { s with
        decReq := some s.buf.candSpan
        decAnswers := (if tag = 1 then .ok x else .fail) :: s.decAnswers
        turns := [] }

/-- The next operation placed so that the very next step performs it. -/
def State.placeTableWord (s : State) (nbits w : Nat) : State :=
  match tableInput nbits w with
  | none => s
  | some i => (s.withContext (tableContext i)).placeInput i

end Sys2Proof.Machine
end

