-- ==== Sys2Proof/Machine/Step.lean ====
section
/-! DEFINITION. One step of the machine: the agent whose turn it is moves once (R17, R208). -/

namespace Sys2Proof.Machine

/-- The block performs the operation its state selects, or holds (R92, R117, R200). -/
def blockStep (s : State) : Host.Outcome State Fault Refusal :=
  match s.selected with
  | none => .next s
  | some i => exec i s

/-- The move of the agent whose turn it is (R208). START latches the inputs the host set last, be it for an earlier
stream, and the defaults of R261 where it has set none since power-on. DESIGN CHOICE, unsafe: log 26. -/
def agentStep (s : State) : Turn → Host.Outcome State Fault Refusal
  | .block => blockStep s
  | .source t => .next (s.sourceOffers t)
  | .decoder r => .next (s.decoderAnswers r)
  | .sink => .next s.sinkRemoves
  | .host (.configure c) => .next (s.hostConfigures c)
  | .host .connect => .next s.hostConnects
  | .host .start => exec (.start s.hostIn.showNull s.hostIn.pidFilter s.hostIn.resync) s
  | .host (.read r) => s.hostReads r

/-- One step: the next scheduled agent moves, and with none scheduled the block does (log 7). -/
def step (s : State) : Host.Outcome State Fault Refusal :=
  match s.turns with
  | [] => blockStep s
  | t :: rest => agentStep { s with turns := rest } t

/-- `s` with a word of the opcode table placed where the next step reads it (log 14). -/
def State.withFetchWord (s : State) (nbits w : Nat) : State := s.placeTableWord nbits w

end Sys2Proof.Machine
end

