-- ==== Sys2Proof/Machine/StreamLines.lean ====
section
/-! DEFINITION. The stream lines of R97 to R101: what bytes each line stands for, how a program of lines is put at the
ports, and the listing of the operations a run performs. -/

namespace Sys2Proof.Machine

/-- `BitVec` bits as a byte of a window or a payload. -/
def byteOf (n : Nat) : Byte := BitVec.ofNat 8 n

/-- TSPKT (R98): marker, header, payload, then 0xFF up to 184 payload bytes; a longer payload is no legal line. -/
def tsPacket (p : Params) (h : Header) (payload : List Byte) : Option (List Byte) :=
  if payload.length ≤ Config.payloadLen then
    some (p.syncByte ::
      ((h.toWord.extractLsb' 16 8) :: (h.toWord.extractLsb' 8 8) :: (h.toWord.extractLsb' 0 8) ::
        (payload ++ List.replicate (Config.payloadLen - payload.length) 0xFF)))
  else none

/-- The header of a TSPKT line with its defaults (R98). -/
def lineHeader (pid : Pid) (pusi : Bool) (cc : BitVec 4 := 0) : Header := ⟨false, pusi, false, pid, 0, 1, cc⟩

/-- `T0` to `T4` of R99. -/
def ptsBytes (pts : Ticks) : List Byte :=
  let hi : BitVec 3 := pts.extractLsb' 30 3
  let mid : BitVec 16 := pts.extractLsb' 15 15 ++ 1#1
  let lo : BitVec 16 := pts.extractLsb' 0 15 ++ 1#1
  [(2#4 ++ hi ++ 1#1 : BitVec 8), mid.extractLsb' 8 8, mid.extractLsb' 0 8, lo.extractLsb' 8 8, lo.extractLsb' 0 8]

/-- The payload of a PESPTS line (R99). -/
def pesPtsPayload (sid : Byte) (pts : Ticks) : List Byte :=
  [0x00, 0x00, 0x01, sid, 0x00, 0x00, 0x80, 0x80, 0x05] ++ ptsBytes pts

/-- The payload of a CAND line (R100). -/
def candPayload (cmd : Byte) : List Byte :=
  [0x00, 0xFC, 0x30, 0x11, 0x00, 0x00, 0x00, 0x00, 0x00, 0x00, 0x00, 0xFF, 0xF0, 0x00, cmd]

/-- One line of a program (R97). -/
inductive StreamLine where
  | cfg (c : StreamConfig)
  | bytes (b : List Byte)
  | tspkt (h : Header) (payload : List Byte)
  | pespts (pid : Pid) (cc : BitVec 4) (sid : Byte) (pts : Ticks)
  | cand (pid : Pid) (pusi : Bool) (cc : BitVec 4) (cmd : Byte)
  | eos
  | dec (r : Response)
deriving DecidableEq, Repr

/-- The bytes a line stands for (R97); none for a line that is not legal. -/
def lineBytes (p : Params) : StreamLine → Option (List Byte)
  | .cfg _ => some []
  | .bytes b => some b
  | .tspkt h payload => tsPacket p h payload
  | .pespts pid cc sid pts => tsPacket p (lineHeader pid true cc) (pesPtsPayload sid pts)
  | .cand pid pusi cc cmd => tsPacket p (lineHeader pid pusi cc) (candPayload cmd)
  | .eos => some []
  | .dec _ => some []

/-- A line put at its port: configuration inputs, bytes at the source, EOS, or a decoder answer (R97). -/
def State.withLine (s : State) (l : StreamLine) : Option State :=
  match l with
  | .cfg c => some { s with hostIn := c }
  | .eos => some { s with srcEos := true }
  | .dec r => some { s with decAnswers := s.decAnswers ++ [r] }
  | l => (lineBytes s.params l).map fun b => { s with srcBytes := s.srcBytes ++ b }

/-- A program at the ports, with the host's `start` as the next move (R2, R263; log 8). EOS follows all the bytes of
the program where an EOS line stands in it, wherever it stands; without an EOS line the source stays open.
DESIGN CHOICE, unsafe: log 23. -/
def State.load (s : State) : List StreamLine → Option State
  | [] => some { s with turns := [.host .start] }
  | l :: ls =>
      match s.withLine l with
      | none => none
      | some s' => s'.load ls

/-- An operation's name (R92). -/
def mnemonic : Instr → String
  | .start _ _ _ => "START"
  | .syncEos => "SYNC_EOS"
  | .syncAccept _ => "SYNC_ACCEPT"
  | .syncStop _ => "SYNC_STOP"
  | .syncSkip _ => "SYNC_SKIP"
  | .pktTrunc => "PKT_TRUNC"
  | .pktByte _ => "PKT_BYTE"
  | .hdrDecode _ => "HDR_DECODE"
  | .pesNoPrefix _ => "PES_NO_PREFIX"
  | .pesExcluded _ => "PES_EXCLUDED"
  | .pesNoOpthdr _ => "PES_NO_OPTHDR"
  | .pesNoPts _ => "PES_NO_PTS"
  | .pesBadTag _ => "PES_BAD_TAG"
  | .pesPts _ => "PES_PTS"
  | .candSkipMarker _ => "CAND_SKIP_MARKER"
  | .candSkipReserved _ => "CAND_SKIP_RESERVED"
  | .candSkipPidlock _ => "CAND_SKIP_PIDLOCK"
  | .candSkipNull _ => "CAND_SKIP_NULL"
  | .candIssue _ => "CAND_ISSUE"
  | .decOk _ => "DEC_OK"
  | .decFail => "DEC_FAIL"

/-- The operation the next step performs, if it performs one: the block's, unless the step holds for want of room in
`EVQ`, or the host's START where it is enabled (R200). -/
def State.nextOperation (s : State) : Option Instr :=
  let block : Option Instr :=
    match s.selected with
    | some (.pesPts w) => if s.hasRoom then some (.pesPts w) else none
    | some (.decOk x) => if s.hasRoom then some (.decOk x) else none
    | o => o
  match s.turns with
  | [] => block
  | .block :: _ => block
  | .host .start :: _ =>
      if s.startEnabled then some (.start s.hostIn.showNull s.hostIn.pidFilter s.hostIn.resync) else none
  | _ => none

/-- The listing of the next `k` steps: the operations performed, one per step (R101). -/
def listing : Nat → State → List String
  | 0, _ => []
  | k + 1, s =>
      (s.nextOperation.map mnemonic).toList ++
        (match step s with
          | .next t => listing k t
          | .fault _ => []
          | .refused _ => [])

end Sys2Proof.Machine
end

