-- ==== Sys2Proof/Safety.lean ====
section
/-! DEFINITION. What counts as a safe run: the invariant that reset satisfies and every step keeps, the observation of a
run (R209), and the block's silence about errors (R230). -/

namespace Sys2Proof.Machine

/-- A packet is wholly in the buffer and its processing has begun: the states of R40 that read `P`. -/
def packetHeld : Fsm → Bool
  | .processHeader => true
  | .processPes => true
  | .processCandidate => true
  | .waitDecoder => true
  | .idle => false
  | .seekSync => false
  | .readPacket => false
  | .done => false

/-- The header registers have been written for the packet in the buffer (R40). -/
def headerHeld : Fsm → Bool
  | .processPes => true
  | .processCandidate => true
  | .waitDecoder => true
  | .idle => false
  | .seekSync => false
  | .readPacket => false
  | .processHeader => false
  | .done => false

/-- What every reachable state satisfies. -/
structure Inv (s : State) : Prop where
  /-- The packet buffer keeps its canonical form and its 187 offsets (R27, R60). -/
  bufWf : s.buf.wf = true
  /-- The FIFO's depth is at least 1 (R12). -/
  depthPos : 1 ≤ s.params.fifoDepth
  /-- `EVQ` holds at most `EVENT_FIFO_DEPTH` events (R33). -/
  evqBound : s.evq.length ≤ s.params.fifoDepth
  /-- `EVQ` is empty before the first START (R260). -/
  evqIdle : s.fsm = .idle → s.evq = []
  /-- `PKT_CNT` has a legal value (R26). -/
  pktCntLegal : s.pktCnt.toNat ≤ 187
  /-- In READ_PACKET at most 186 bytes are held (R115, R116). -/
  pktCntReading : s.fsm = .readPacket → s.pktCnt.toNat ≤ 186
  /-- `P` is read only when all 187 bytes of the packet have been written (R40). -/
  pktCntHeld : packetHeld s.fsm = true → s.pktCnt.toNat = 187
  /-- `HDR_*` is read only when written from this packet (R40). -/
  hdrHeld : headerHeld s.fsm = true → s.hdr = Header.ofWord s.buf.headerWord
  /-- PROCESS_PES is entered only with PUSI set (R132). -/
  pusiSet : s.fsm = .processPes → s.hdr.pusi = true
  /-- A request is outstanding exactly in WAIT_DECODER (R38). -/
  requestIff : s.decReq.isSome = true ↔ s.fsm = .waitDecoder
  /-- The outstanding request carries the candidate span of the packet in the buffer (R71, R175). -/
  requestSpan : ∀ span, s.decReq = some span → span = s.buf.candSpan
  /-- What is with the decoder passed the four checks of the filter (R171 to R174). -/
  requestChecked : s.fsm = .waitDecoder →
    s.buf.read 4 = 0xFC ∧ s.hdr.pid ≠ 101 ∧ (s.lockValid = true → s.hdr.pid = s.lockPid) ∧
      (s.cfgShowNull = false → s.buf.read 17 ≠ 0)
  /-- `DONE_REASON` says that the stream has ended exactly in DONE (R231, R232). -/
  doneIff : s.doneReason ≠ .notEnded ↔ s.fsm = .done
  /-- A configured filter is the lock, and is never replaced (R29, R176). -/
  filterIsLock : s.fsm ≠ .idle → s.cfgPidFilterEn = true → s.lockValid = true ∧ s.lockPid = s.cfgPidFilter
  /-- A decoded section has locked a PID (R176). -/
  sectionLocks : s.fsm ≠ .idle → s.lastSectionValid = true → s.lockValid = true

/-- Every event the block has emitted since the last START: what the sink has removed and what it has not. -/
def State.emitted (s : State) : List Event := s.sinkSeen ++ s.evq

/-- The end of a run and its observation (R209). -/
structure Observation where
  events : List Event
  doneReason : DoneReason
  lockValid : Bool
  lockPid : Pid
  lastPtsValid : Bool
  lastPts : Ticks
  lastSectionValid : Bool
  lastSection : Section
  counters : Counters
deriving DecidableEq, Repr

/-- The observation of a run that has ended (R209); none before its end. LOCK_PID, LAST_PTS and LAST_SECTION with their
valid bit 0 are unspecified there (R39, I10): the observation shows the values held, those of an earlier stream or of
reset, where a host read faults. DESIGN CHOICE, unsafe: log 25. -/
def State.observe (s : State) : Option Observation :=
  if s.runEnded then
    some ⟨s.sinkSeen, s.doneReason, s.lockValid, s.lockPid, s.lastPtsValid, s.lastPts, s.lastSectionValid,
      s.lastSection, s.cnt⟩
  else none

/-- The step neither faults nor refuses (R230). -/
def Result.proceeds : Result → Prop
  | .next _ => True
  | .fault _ => False
  | .refused _ => False

end Sys2Proof.Machine
end

