-- ==== Sys2Proof/Certificates/Slice0/Obligations.lean ====
section
/-! DEFINITION. The statements for the provers. Each says what an operation, an agent or the machine does, in the words
of the numbered rules of spec/. A record update states the frame: every field it does not name is unchanged. -/

open Sys2Proof Sys2Proof.Machine

/-! ### Power-on, START, configuration -/

/-- Power-on (R260 and the table of R39, which the spec marks as its decision D20): FSM, DONE_REASON and EVQ, and
IDLE's only operation. The other registers' power-on values are the model's choice (log 1): nothing is said of
them. -/
def Obligations.PowerOnIsIdleAndOnlyStartActs : Prop :=
  (State.reset.fsm = .idle ∧ doneCode State.reset.doneReason = 0 ∧ State.reset.evq = []) ∧
  (∀ r, State.reset.specified r = true ↔ r = .fsm ∨ r = .doneReason) ∧
  ∀ s : State, s.fsm = .idle →
    blockStep s = .next s ∧ ∀ i, (∀ n p r, i ≠ .start n p r) → exec i s = .next s

/-- START (R261, which the spec marks as its decision D20). `seen` is the model's own record of the observation: the
statement says nothing of it (log 13). No rule says what a START in DONE without a fresh connect does with what the
old stream left at the ports, its unread bytes, its EOS and its unused decoder answers: that they stay is the
model's choice (log 24). So is that the host's inputs stand for a later START (log 26). -/
def Obligations.StartOpensStream : Prop :=
  ∀ (s : State) (showNull : Bool) (pidFilter : Option Pid) (resync : Bool),
    s.fsm = .idle ∨ s.fsm = .done →
    ∃ seen, exec (.start showNull pidFilter resync) s = .next
      { s with
        cfgShowNull := showNull
        cfgResync := resync
        cfgPidFilterEn := pidFilter.isSome
        cfgPidFilter := match pidFilter with | some f => f | none => s.cfgPidFilter
        lockValid := pidFilter.isSome
        lockPid := match pidFilter with | some f => f | none => s.lockPid
        lastPtsValid := false
        lastSectionValid := false
        doneReason := .notEnded
        pktCnt := 0
        cnt := ⟨0, 0, 0, 0, 0, 0, 0, 0, 0⟩
        evq := []
        fsm := .seekSync
        sinkSeen := seen }

/-- START outside IDLE and DONE has no step (R262, which the spec marks as its decision D20). `mark` is the model's own
record of it (log 9). -/
def Obligations.StartMidStreamChangesNoRegister : Prop :=
  ∀ (s : State) (n : Bool) (p : Option Pid) (r : Bool), s.fsm ≠ .idle → s.fsm ≠ .done →
    ∃ mark, exec (.start n p r) s = .next { s with hostRefused := mark }

/-- The configuration registers take the host's inputs at an effective START and at no other step, and a change of the
inputs alone changes nothing else (R23, whose latching the spec marks as its decision D15). The inputs are those
the host set last, be it for an earlier stream: the model's choice (log 26). -/
def Obligations.ConfigurationIsLatchedAtStart : Prop :=
  (∀ (s t : State), step s = .next t →
    (∃ rest, s.turns = .host .start :: rest ∧ (s.fsm = .idle ∨ s.fsm = .done) ∧
      t.cfgShowNull = s.hostIn.showNull ∧ t.cfgResync = s.hostIn.resync ∧
      t.cfgPidFilterEn = s.hostIn.pidFilter.isSome ∧
      (∀ f, s.hostIn.pidFilter = some f → t.cfgPidFilter = f)) ∨
    (t.cfgShowNull = s.cfgShowNull ∧ t.cfgResync = s.cfgResync ∧ t.cfgPidFilterEn = s.cfgPidFilterEn ∧
      t.cfgPidFilter = s.cfgPidFilter)) ∧
  ∀ (s : State) (c : StreamConfig) (rest : List Turn), s.turns = .host (.configure c) :: rest →
    step s = .next { s with turns := rest, hostIn := c }

/-! ### SEEK_SYNC and READ_PACKET -/

/-- R112. -/
def Obligations.SyncEosEndsStreamAtEndOfData : Prop :=
  ∀ s : State, s.fsm = .seekSync → s.srcBytes = [] → s.srcEos = true →
    exec .syncEos s = .next { s with doneReason := .endOfData, fsm := .done }

/-- R111. -/
def Obligations.SyncAcceptEntersReadPacket : Prop :=
  ∀ (s : State) (b : Byte) (rest : List Byte), s.fsm = .seekSync → s.srcBytes = b :: rest → b = s.params.syncByte →
    exec (.syncAccept b) s = .next { s with srcBytes := rest, pktCnt := 0, fsm := .readPacket }

/-- R113. -/
def Obligations.SyncStopEndsStreamAtSyncLoss : Prop :=
  ∀ (s : State) (b : Byte) (rest : List Byte), s.fsm = .seekSync → s.srcBytes = b :: rest → b ≠ s.params.syncByte →
    s.cfgResync = false →
    exec (.syncStop b) s = .next { s with srcBytes := rest, doneReason := .syncLoss, fsm := .done }

/-- SYNC_SKIP (R114, the resynchronization that the spec marks as its decision D8). -/
def Obligations.SyncSkipTriesNextByte : Prop :=
  ∀ (s : State) (b : Byte) (rest : List Byte), s.fsm = .seekSync → s.srcBytes = b :: rest → b ≠ s.params.syncByte →
    s.cfgResync = true →
    exec (.syncSkip b) s = .next { s with srcBytes := rest, cnt := { s.cnt with resync := s.cnt.resync + 1 } }

/-- PKT_BYTE (R115, whose byte-at-a-time form the spec marks as its decision D9): the byte is stored at PKT_CNT and
nowhere else, and the 187th byte completes the packet. -/
def Obligations.PktByteStoresAtPktCnt : Prop :=
  ∀ (s : State) (b : Byte) (rest : List Byte), s.buf.wf = true → s.fsm = .readPacket → s.srcBytes = b :: rest →
    s.pktCnt.toNat ≤ 186 →
    ∃ t, exec (.pktByte b) s = .next t ∧
      (∀ a, t.buf.read a = if a = s.pktCnt.toNat then b else s.buf.read a) ∧
      t = { s with
            srcBytes := rest
            buf := t.buf
            pktCnt := s.pktCnt + 1
            cnt := if s.pktCnt.toNat = 186 then { s.cnt with pkt := s.cnt.pkt + 1 } else s.cnt
            fsm := if s.pktCnt.toNat = 186 then .processHeader else .readPacket }

/-- PKT_TRUNC (R116; that the partial packet is discarded the spec marks as its decision D10). -/
def Obligations.PktTruncEndsStreamTruncated : Prop :=
  ∀ s : State, s.fsm = .readPacket → s.srcBytes = [] → s.srcEos = true →
    exec .pktTrunc s = .next { s with doneReason := .truncated, fsm := .done }

/-- With no token offered the block holds (R117, which the spec marks as its decision D9), and no operation of the
block acts (the model's reading of R200: log 12). -/
def Obligations.NoTokenHoldsTheBlock : Prop :=
  ∀ s : State, s.fsm = .seekSync ∨ s.fsm = .readPacket → s.srcBytes = [] → s.srcEos = false →
    blockStep s = .next s ∧ ∀ i, (∀ n p r, i ≠ .start n p r) → exec i s = .next s

/-- Buffer writes over a whole packet (R66, with R111 and R115; the byte-at-a-time form is the spec's decision D9):
from a marker, 188 block steps put the next 187 bytes of the stream into the buffer in the order they arrive, count
one packet, and write nothing else. -/
def Obligations.MarkerAndBytesFillTheBuffer : Prop :=
  ∀ (s : State) (bytes rest : List Byte), s.buf.wf = true → s.turns = [] → s.fsm = .seekSync → bytes.length = 187 →
    s.srcBytes = s.params.syncByte :: (bytes ++ rest) →
    ∃ t, Host.Core.run core 188 s = .next t ∧
      (∀ i, i < 187 → bytes[i]? = some (t.buf.read i)) ∧
      t = { s with
            srcBytes := rest
            buf := t.buf
            pktCnt := 187
            cnt := { s.cnt with pkt := s.cnt.pkt + 1 }
            fsm := .processHeader }

/-! ### PROCESS_HEADER -/

/-- R130 and R132: the seven header registers from the bits of `P[0..2]`, and the branch on PUSI. -/
def Obligations.HdrDecodeWritesHeaderBits : Prop :=
  ∀ s : State, s.fsm = .processHeader →
    exec (.hdrDecode s.buf.headerOfBytes) s = .next
      { s with
        hdr := s.buf.headerOfBytes
        fsm := if (s.buf.read 0).getLsbD 6 then .processPes else .processCandidate }

/-- The five header registers that are written and never read (R131, which the spec marks as derived). Two states that
differ in them alone take the same block step, up to them. -/
def Obligations.UnreadHeaderFieldsHaveNoEffect : Prop :=
  ∀ (s : State) (tei prio : Bool) (tsc afc : BitVec 2) (cc : BitVec 4) (t : State), blockStep s = .next t →
    ∃ tei' prio' tsc' afc' cc',
      blockStep { s with hdr := ⟨tei, s.hdr.pusi, prio, s.hdr.pid, tsc, afc, cc⟩ } =
        .next { t with hdr := ⟨tei', t.hdr.pusi, prio', t.hdr.pid, tsc', afc', cc'⟩ }

/-! ### PROCESS_PES -/

/-- The bit order of a field read (R61, which the spec marks as its decision D4): bit `n-1-j` of the field of `n` bits
at position `k` is bit `7 - (k+j) mod 8` of the byte that holds position `k + j` of the window. -/
def Obligations.WindowFieldsReadMostSignificantBitFirst : Prop :=
  ∀ (m : Memory) (k n j : Nat), k + n ≤ 112 → j < n →
    (windowField m.pesWord k n).getLsbD (n - 1 - j) = (m.read (3 + (k + j) / 8)).getLsbD (7 - (k + j) % 8)

/-- The decoder's fields of the window are the byte expressions (R85, which the spec marks as derived from R84 and
R61). -/
def Obligations.WindowFieldsAreTheByteExpressions : Prop :=
  ∀ m : Memory, PesWindow.ofWord m.pesWord = m.windowOfBytes

/-- Timestamp assembly (R86, which the spec marks as derived): the three components are disjoint, so that their "or" is
their sum and never carries. -/
def Obligations.RawTicksIsTheSumOfThreeParts : Prop :=
  ∀ w : PesWindow,
    (rawTicks w).toNat = w.ptsHi.toNat * 2 ^ 30 + w.ptsMid.toNat * 2 ^ 15 + w.ptsLo.toNat ∧
    (rawTicks w).toNat ≤ 8589934591

/-- R142. -/
def Obligations.PesNoPrefixGoesToCandidate : Prop :=
  ∀ s : State, s.fsm = .processPes → s.buf.windowOfBytes.startCode ≠ 1 →
    exec (.pesNoPrefix s.buf.windowOfBytes) s = .next { s with fsm := .processCandidate }

/-- R143. -/
def Obligations.PesExcludedGoesToCandidate : Prop :=
  ∀ s : State, s.fsm = .processPes → s.buf.windowOfBytes.startCode = 1 →
    s.buf.windowOfBytes.streamId ∈ s.params.excludedIds →
    exec (.pesExcluded s.buf.windowOfBytes) s = .next { s with fsm := .processCandidate }

/-- R144. -/
def Obligations.PesNoOpthdrGoesToCandidate : Prop :=
  ∀ s : State, s.fsm = .processPes → s.buf.windowOfBytes.startCode = 1 →
    s.buf.windowOfBytes.streamId ∉ s.params.excludedIds → s.buf.windowOfBytes.optMarker ≠ 0b10#2 →
    exec (.pesNoOpthdr s.buf.windowOfBytes) s = .next { s with fsm := .processCandidate }

/-- R145. -/
def Obligations.PesNoPtsGoesToCandidate : Prop :=
  ∀ s : State, s.fsm = .processPes → s.buf.windowOfBytes.startCode = 1 →
    s.buf.windowOfBytes.streamId ∉ s.params.excludedIds → s.buf.windowOfBytes.optMarker = 0b10#2 →
    s.buf.windowOfBytes.ptsFlags ≠ 0b10#2 →
    exec (.pesNoPts s.buf.windowOfBytes) s = .next { s with fsm := .processCandidate }

/-- R146. -/
def Obligations.PesBadTagGoesToCandidate : Prop :=
  ∀ s : State, s.fsm = .processPes → s.buf.windowOfBytes.startCode = 1 →
    s.buf.windowOfBytes.streamId ∉ s.params.excludedIds → s.buf.windowOfBytes.optMarker = 0b10#2 →
    s.buf.windowOfBytes.ptsFlags = 0b10#2 → s.buf.windowOfBytes.ptsTag ≠ 2#4 →
    exec (.pesBadTag s.buf.windowOfBytes) s = .next { s with fsm := .processCandidate }

/-- PES_PTS (R147): `raw` is the three fields side by side (R86, which the spec marks as derived). That the block keeps
and emits raw ticks is the spec's decision D11, that the markers are not checked its D12 (R148, log 18), and that
the event waits for room in EVQ its D13. -/
def Obligations.PesPtsEmitsTimestamp : Prop :=
  ∀ (s : State) (raw : Ticks), s.fsm = .processPes → s.buf.windowOfBytes.startCode = 1 →
    s.buf.windowOfBytes.streamId ∉ s.params.excludedIds → s.buf.windowOfBytes.optMarker = 0b10#2 →
    s.buf.windowOfBytes.ptsFlags = 0b10#2 → s.buf.windowOfBytes.ptsTag = 2#4 →
    s.evq.length < s.params.fifoDepth →
    raw.toNat = s.buf.windowOfBytes.ptsHi.toNat * 2 ^ 30 + s.buf.windowOfBytes.ptsMid.toNat * 2 ^ 15 +
      s.buf.windowOfBytes.ptsLo.toNat →
    exec (.pesPts s.buf.windowOfBytes) s = .next
      { s with
        lastPts := raw
        lastPtsValid := true
        cnt := { s.cnt with pts := s.cnt.pts + 1 }
        evq := s.evq ++ [.ts raw]
        fsm := .processCandidate }

/-- The marker bits are never checked (R148, which the spec marks as its decision D12). -/
def Obligations.TimestampMarkersAreNotChecked : Prop :=
  ∀ (c : Context) (w : PesWindow) (m1 m2 m3 : BitVec 1),
    rawTicks { w with marker1 := m1, marker2 := m2, marker3 := m3 } = rawTicks w ∧
    ∃ outcome ∈ [Instr.pesNoPrefix, Instr.pesExcluded, Instr.pesNoOpthdr, Instr.pesNoPts, Instr.pesBadTag, Instr.pesPts],
      decodePes c w = outcome w ∧
        decodePes c { w with marker1 := m1, marker2 := m2, marker3 := m3 } =
          outcome { w with marker1 := m1, marker2 := m2, marker3 := m3 }

/-- R149: whatever outcome PROCESS_PES selects other than PES_PTS, it writes FSM alone, with room in EVQ or without. -/
def Obligations.NoTimestampOutcomeWritesFsmOnly : Prop :=
  ∀ (s : State) (i : Instr), s.fsm = .processPes → s.selected = some i → (∀ w, i ≠ .pesPts w) →
    exec i s = .next { s with fsm := .processCandidate }

/-- Back-pressure (R151, which the spec marks as its decision D13): PES_PTS holds with nothing changed while EVQ is
full, takes place after the sink has removed one event, and the outcomes without a timestamp never wait. -/
def Obligations.PesPtsWaitsForRoomOnly : Prop :=
  (∀ (s : State) (w : PesWindow), s.params.fifoDepth ≤ s.evq.length → exec (.pesPts w) s = .next s) ∧
  (∀ (s : State) (w : PesWindow) (e : Event) (rest : List Event), s.selected = some (.pesPts w) →
    s.evq = e :: rest → s.evq.length = s.params.fifoDepth →
    ∃ t, exec (.pesPts w) s.sinkRemoves = .next t ∧ t.evq = rest ++ [.ts (rawTicks w)] ∧ t.fsm = .processCandidate) ∧
  ∀ (s : State) (i : Instr), s.fsm = .processPes → s.selected = some i → (∀ w, i ≠ .pesPts w) →
    ∃ t, exec i s = .next t ∧ t.fsm = .processCandidate

/-- R140: the outcome of PROCESS_PES is a function of `P[3..16]` and the parameters; nothing else of the state, the
adaptation-field control among it, moves the window. -/
def Obligations.PesOutcomeDependsOnWindowBytesOnly : Prop :=
  ∀ s t : State, s.fsm = .processPes → t.fsm = .processPes → s.params = t.params →
    (∀ a, 3 ≤ a → a ≤ 16 → s.buf.read a = t.buf.read a) → s.selected = t.selected

/-- What PROCESS_PES emits does not depend on the PID, the lock or the null-suppression flag, and the candidate filter
of the same packet comes after (R150, which the spec marks as derived). -/
def Obligations.TimestampIgnoresCandidateFilterState : Prop :=
  ∀ (s : State) (h : Header) (v n : Bool) (p : Pid), s.fsm = .processPes →
    ∃ t, blockStep s = .next t ∧
      blockStep { s with hdr := h, lockValid := v, lockPid := p, cfgShowNull := n } =
        .next { t with hdr := h, lockValid := v, lockPid := p, cfgShowNull := n } ∧
      (t = s ∨ t.fsm = .processCandidate)

/-! ### PROCESS_CANDIDATE and WAIT_DECODER -/

/-- R171: check 1, whatever the other checks say. -/
def Obligations.CandSkipMarkerSkips : Prop :=
  ∀ s : State, s.fsm = .processCandidate → s.buf.read 4 ≠ 0xFC →
    exec (.candSkipMarker ⟨s.buf.read 4, s.hdr.pid, s.buf.read 17⟩) s = .next
      { s with cnt := { s.cnt with skipMarker := s.cnt.skipMarker + 1 }, fsm := .seekSync }

/-- Check 2, locked PID or not (R172; that 101 is decimal the spec marks as its decision D7). -/
def Obligations.CandSkipReservedSkips : Prop :=
  ∀ s : State, s.fsm = .processCandidate → s.buf.read 4 = 0xFC → s.hdr.pid = 101 →
    exec (.candSkipReserved ⟨s.buf.read 4, s.hdr.pid, s.buf.read 17⟩) s = .next
      { s with cnt := { s.cnt with skipReserved := s.cnt.skipReserved + 1 }, fsm := .seekSync }

/-- R173: check 3. -/
def Obligations.CandSkipPidlockSkips : Prop :=
  ∀ s : State, s.fsm = .processCandidate → s.buf.read 4 = 0xFC → s.hdr.pid ≠ 101 → s.lockValid = true →
    s.hdr.pid ≠ s.lockPid →
    exec (.candSkipPidlock ⟨s.buf.read 4, s.hdr.pid, s.buf.read 17⟩) s = .next
      { s with cnt := { s.cnt with skipPidlock := s.cnt.skipPidlock + 1 }, fsm := .seekSync }

/-- Check 4 (R174; that offset 17 is a buffer offset the spec marks as its decision D6). -/
def Obligations.CandSkipNullSkips : Prop :=
  ∀ s : State, s.fsm = .processCandidate → s.buf.read 4 = 0xFC → s.hdr.pid ≠ 101 →
    (s.lockValid = true → s.hdr.pid = s.lockPid) → s.cfgShowNull = false → s.buf.read 17 = 0 →
    exec (.candSkipNull ⟨s.buf.read 4, s.hdr.pid, s.buf.read 17⟩) s = .next
      { s with cnt := { s.cnt with skipNull := s.cnt.skipNull + 1 }, fsm := .seekSync }

/-- With the four checks failed, the 183 bytes `P[4..186]` go to the decoder (R175 and R88; that the span runs to the
end of the buffer the spec marks as its decision D14). -/
def Obligations.CandIssueSendsTheSpan : Prop :=
  ∀ s : State, s.fsm = .processCandidate → s.buf.read 4 = 0xFC → s.hdr.pid ≠ 101 →
    (s.lockValid = true → s.hdr.pid = s.lockPid) → (s.cfgShowNull = false → s.buf.read 17 ≠ 0) →
    ∃ span, exec (.candIssue ⟨s.buf.read 4, s.hdr.pid, s.buf.read 17⟩) s = .next
        { s with decReq := some span, fsm := .waitDecoder } ∧
      span.length = 183 ∧ ∀ i, i < 183 → span[i]? = some (s.buf.read (4 + i))

/-- DEC_OK (R176; the wait for room is the spec's decision D13): the first success locks the packet's PID, a lock is
never replaced, and while EVQ is full the response waits. -/
def Obligations.DecOkEmitsAndLocks : Prop :=
  ∀ (s : State) (x : Section) (span : List Byte) (rest : List Response), s.fsm = .waitDecoder →
    s.decReq = some span → s.decAnswers = .ok x :: rest →
    (s.evq.length < s.params.fifoDepth →
      exec (.decOk x) s = .next
        { s with
          decReq := none
          decAnswers := rest
          lastSection := x
          lastSectionValid := true
          cnt := { s.cnt with sections := s.cnt.sections + 1 }
          evq := s.evq ++ [.sec x]
          lockPid := if s.lockValid = true then s.lockPid else s.hdr.pid
          lockValid := true
          fsm := .seekSync }) ∧
    (s.params.fifoDepth ≤ s.evq.length → exec (.decOk x) s = .next s)

/-- R177. -/
def Obligations.DecFailSkipsThePacket : Prop :=
  ∀ (s : State) (span : List Byte) (rest : List Response), s.fsm = .waitDecoder → s.decReq = some span →
    s.decAnswers = .fail :: rest →
    exec .decFail s = .next
      { s with
        decReq := none
        decAnswers := rest
        cnt := { s.cnt with decFail := s.cnt.decFail + 1 }
        fsm := .seekSync }

/-- A lock stays until the next effective START, and from then on only the locked PID's packets reach the decoder
(R178, the source's property, which the spec marks as derived). -/
def Obligations.LockIsStableAndGuardsTheDecoder : Prop :=
  ∀ s t : State, step s = .next t → s.lockValid = true →
    ((∃ rest, s.turns = .host .start :: rest ∧ (s.fsm = .idle ∨ s.fsm = .done)) ∨
      (t.lockValid = true ∧ t.lockPid = s.lockPid)) ∧
    (s.decReq = none → t.decReq ≠ none → s.hdr.pid = s.lockPid)

/-- Null suppression (R180, the source's property, which the spec marks as derived; the offset is its decision D6). -/
def Obligations.NullSuppressionGuardsTheDecoder : Prop :=
  ∀ s t : State, step s = .next t → s.cfgShowNull = false → s.decReq = none → t.decReq ≠ none → s.buf.read 17 ≠ 0

/-- A packet of the reserved PID, or with another marker byte, is never sent to the decoder (from R94, R171 and R172,
101 decimal being the spec's decision D7), and the request is the span P[4..186] (from R175 and R88, its end being
the spec's decision D14: log 18). -/
def Obligations.OnlyMarkedUnreservedPacketsReachTheDecoder : Prop :=
  ∀ s t : State, step s = .next t → s.decReq = none → t.decReq ≠ none →
    s.fsm = .processCandidate ∧ s.buf.read 4 = 0xFC ∧ s.hdr.pid ≠ 101 ∧ t.decReq = some s.buf.candSpan

/-! ### Termination, events, counters -/

/-- What `terminate` writes, and that in DONE nothing but START acts (R231, which the spec marks as its decision D17). -/
def Obligations.DoneIsFinalForTheStream : Prop :=
  (∀ (s : State) (r : DoneReason), s.terminate r = { s with doneReason := r, fsm := .done }) ∧
  ∀ s : State, s.fsm = .done →
    blockStep s = .next s ∧ ∀ i, (∀ n p r, i ≠ .start n p r) → exec i s = .next s

/-- The event output (R204, which the spec marks as its decision D13): the only emitting operations are PES_PTS and
DEC_OK, each appends one event at the tail, and only where EVQ has room. -/
def Obligations.OnlyPesPtsAndDecOkEmit : Prop :=
  ∀ (i : Instr) (s t : State), exec i s = .next t →
    (∃ n p r, i = .start n p r) ∨ t.evq = s.evq ∨
    (s.evq.length < s.params.fifoDepth ∧
      ((∃ w, i = .pesPts w ∧ t.evq = s.evq ++ [.ts (rawTicks w)]) ∨ ∃ x, i = .decOk x ∧ t.evq = s.evq ++ [.sec x]))

/-- The sink (R205, which the spec marks as its decision D13) removes the head event, in any state of the block, and
changes nothing else of the block; `sinkSeen` is the model's own record (log 13). -/
def Obligations.SinkRemovesTheHeadEvent : Prop :=
  ∀ (s : State) (rest : List Turn), s.turns = .sink :: rest →
    (∀ e q, s.evq = e :: q →
      step s = .next { s with turns := rest, evq := q, sinkSeen := s.sinkSeen ++ [e] }) ∧
    (s.evq = [] → step s = .next { s with turns := rest })

/-- From R69 and R212, which the spec marks as derived: but for an effective START, a step adds at most one event
behind those already emitted and loses none. -/
def Obligations.EmittedEventsAreKeptInOrder : Prop :=
  ∀ s t : State, step s = .next t →
    (∃ rest, s.turns = .host .start :: rest ∧ (s.fsm = .idle ∨ s.fsm = .done)) ∨
    ∃ l, t.emitted = s.emitted ++ l ∧ l.length ≤ 1

/-- From R213, which the spec marks as derived: where both the sink and the block can move, the order of the two makes
no difference. With EVQ full the block can move unless it is to emit (R204). -/
def Obligations.SinkAndBlockCommute : Prop :=
  ∀ (s t : State), s.evq ≠ [] →
    s.evq.length < s.params.fifoDepth ∨
      (∀ w, s.selected ≠ some (.pesPts w)) ∧ (∀ x, s.selected ≠ some (.decOk x)) →
    blockStep s = .next t → blockStep s.sinkRemoves = .next t.sinkRemoves

/-- A counter wraps from 2^32 - 1 to 0 (R35, which the spec marks as its decision D18), and an increment changes no
other counter. -/
def Obligations.CountersWrapAndAreSeparate : Prop :=
  ∀ (c : Counters) (k n : Counter),
    ((c.bump k).get k).toNat = ((c.get k).toNat + 1) % 2 ^ 32 ∧ (n ≠ k → (c.bump k).get n = c.get n)

/-- From R36, R40 and R207 (the spec's decision D15): a read shows the register's value, written out here for each of
the 21 registers, and changes no register. The record hostSeen is the model's (log 22), and so is that in IDLE a
register shows its value at reset (log 1). After START a read of LOCK_PID, LAST_PTS or LAST_SECTION with its valid
bit 0 faults (R39, R40, I10; log 10). -/
def Obligations.HostReadHasNoSideEffect : Prop :=
  ∀ (s : State) (r : StatusReg) (rest : List Turn), s.turns = .host (.read r) :: rest →
    if s.fsm ≠ .idle ∧ (r = .lockPid ∧ s.lockValid = false ∨ r = .lastPts ∧ s.lastPtsValid = false ∨
        r = .lastSection ∧ s.lastSectionValid = false)
    then step s = .fault (.unspecifiedRead r)
    else step s = .next
      { s with
        turns := rest
        hostSeen := s.hostSeen ++ [(r,
          match r with
          | .fsm => .bits (fsmCode s.fsm).toNat
          | .doneReason => .bits (doneCode s.doneReason).toNat
          | .lockValid => .bits (if s.lockValid then 1 else 0)
          | .lockPid => .bits s.lockPid.toNat
          | .lastPtsValid => .bits (if s.lastPtsValid then 1 else 0)
          | .lastPts => .bits s.lastPts.toNat
          | .lastSectionValid => .bits (if s.lastSectionValid then 1 else 0)
          | .lastSection => .object s.lastSection
          | .cfgShowNull => .bits (if s.cfgShowNull then 1 else 0)
          | .cfgPidFilterEn => .bits (if s.cfgPidFilterEn then 1 else 0)
          | .cfgPidFilter => .bits s.cfgPidFilter.toNat
          | .cfgResync => .bits (if s.cfgResync then 1 else 0)
          | .counter .pkt => .bits s.cnt.pkt.toNat
          | .counter .pts => .bits s.cnt.pts.toNat
          | .counter .sections => .bits s.cnt.sections.toNat
          | .counter .skipMarker => .bits s.cnt.skipMarker.toNat
          | .counter .skipReserved => .bits s.cnt.skipReserved.toNat
          | .counter .skipPidlock => .bits s.cnt.skipPidlock.toNat
          | .counter .skipNull => .bits s.cnt.skipNull.toNat
          | .counter .decFail => .bits s.cnt.decFail.toNat
          | .counter .resync => .bits s.cnt.resync.toNat)] }

/-- The codes the status port shows (R25 and R232, which the spec marks as its decision D17). -/
def Obligations.StatusCodes : Prop :=
  (fsmCode .idle, fsmCode .seekSync, fsmCode .readPacket, fsmCode .processHeader) = (0, 1, 2, 3) ∧
  (fsmCode .processPes, fsmCode .processCandidate, fsmCode .waitDecoder, fsmCode .done) = (4, 5, 6, 7) ∧
  (doneCode .notEnded, doneCode .endOfData, doneCode .truncated, doneCode .syncLoss) = (0, 1, 2, 3)

/-! ### Selection, encoding, the step -/

/-- From R93, which the spec marks as derived from R92: in every state, for every input word offered there, exactly one
operation has its conditions met and carries that word, and it is the one selected. An input is always there in
PROCESS_HEADER, PROCESS_PES and PROCESS_CANDIDATE. -/
def Obligations.SelectionIsTotalAndExclusive : Prop :=
  (∀ (s : State) (w : InputWord), s.inputWord = some w →
    ∃ i, s.selected = some i ∧
      ∀ j : Instr, (j.wellFormed s.params = true ∧ j.enabledIn s.context = true ∧ encode j = w) ↔ j = i) ∧
  ∀ s : State, s.inputWord = none →
    s.fsm = .idle ∨ s.fsm = .done ∨ ((s.fsm = .seekSync ∨ s.fsm = .readPacket) ∧ s.token = none) ∨
      (s.fsm = .waitDecoder ∧ s.response = none)

/-- Decode and encode agree: every operation, with every operand its row of R92 admits, in every state and under all
registers and parameters that select it. -/
def Obligations.DecodeReadsBackEveryEncoding : Prop :=
  ∀ (c : Context) (i : Instr), i.wellFormed c.params = true → i.enabledIn c = true → decode c (encode i) = .ok i

/-- Each canonical word has one meaning: what the decoder reads from it encodes to it again. -/
def Obligations.EncodeWritesBackEveryDecoding : Prop :=
  ∀ (c : Context) (w : InputWord) (i : Instr), w.canonical = true → decode c w = .ok i → encode i = w

/-- Words written out from the formats of R80, R81, R82, R87 and R90 decode to their operations. Which state reads a
table word is the model's choice (log 14). -/
def Obligations.WrittenOutWordsDecode : Prop :=
  decodeTableWord 8 0b1 = some (.start true none false) ∧
  decodeTableWord 16 0b1_0000_0000 = some .syncEos ∧
  decodeTableWord 16 0b0_0100_0111 = some (.syncAccept 0x47) ∧
  decodeTableWord 16 0b0_0000_0000 = some (.syncStop 0x00) ∧
  decodeTableWord 24 0x1FFF00 = some (.hdrDecode ⟨false, false, false, 8191, 0, 0, 0⟩) ∧
  decodeTableWord 32 0b1111_1100_0_0000_0110_0101_0000_0000 = some (.candSkipReserved ⟨0xFC, 101, 0⟩) ∧
  decodeTableWord 32 0b1111_1100_0_0000_0010_0001_0000_0101 = some (.candIssue ⟨0xFC, 33, 5⟩) ∧
  decodeTableWord 8 0b0 = some .decFail

/-- A step runs the decoded operation: when the block is to move and the input word of its state decodes to an
operation, the step is that operation's meaning, with the turn taken off the schedule (log 7). START runs at the
host's turn, with the inputs the host set last (the model's choice: log 26). -/
def Obligations.StepRunsTheDecodedOperation : Prop :=
  (∀ (s : State) (w : InputWord) (i : Instr), s.turns = [] → s.inputWord = some w → decode s.context w = .ok i →
    step s = exec i s) ∧
  (∀ (s : State) (w : InputWord) (i : Instr) (rest : List Turn), s.turns = .block :: rest → s.inputWord = some w →
    decode s.context w = .ok i → step s = exec i { s with turns := rest }) ∧
  ∀ (s : State) (rest : List Turn), s.turns = .host .start :: rest →
    step s = exec (.start s.hostIn.showNull s.hostIn.pidFilter s.hostIn.resync) { s with turns := rest }

/-- A word of the opcode table, placed where the next step reads it, is the operation that the state then selects, or
the host's enabled START, and it is what the next step runs. The placement is the model's (log 14). -/
def Obligations.PlacedTableWordIsRunNext : Prop :=
  ∀ (s : State) (nbits w : Nat) (i : Instr), s.buf.wf = true → decodeTableWord nbits w = some i →
    let p := s.withFetchWord nbits w
    ((p.turns = [] ∧ p.selected = some i) ∨
      (p.turns = [.host .start] ∧ p.startEnabled = true ∧
        i = .start p.hostIn.showNull p.hostIn.pidFilter p.hostIn.resync)) ∧
    step p = exec i { p with turns := [] }

/-- The transition relation (R200, whose added rows the spec marks as its decision D17). An operation that changes the
state is in one of its rows, but for the mark that a refused START leaves (log 9). -/
def Obligations.TransitionsAreTheTable : Prop :=
  ∀ (i : Instr) (s t : State), exec i s = .next t →
    t = s ∨ t = { s with hostRefused := true } ∨
    (s.fsm, mnemonic i, t.fsm) ∈
      ([(.idle, "START", .seekSync), (.seekSync, "SYNC_EOS", .done), (.seekSync, "SYNC_ACCEPT", .readPacket),
        (.seekSync, "SYNC_STOP", .done), (.seekSync, "SYNC_SKIP", .seekSync), (.readPacket, "PKT_TRUNC", .done),
        (.readPacket, "PKT_BYTE", .readPacket), (.readPacket, "PKT_BYTE", .processHeader),
        (.processHeader, "HDR_DECODE", .processPes), (.processHeader, "HDR_DECODE", .processCandidate),
        (.processPes, "PES_NO_PREFIX", .processCandidate), (.processPes, "PES_EXCLUDED", .processCandidate),
        (.processPes, "PES_NO_OPTHDR", .processCandidate), (.processPes, "PES_NO_PTS", .processCandidate),
        (.processPes, "PES_BAD_TAG", .processCandidate), (.processPes, "PES_PTS", .processCandidate),
        (.processCandidate, "CAND_SKIP_MARKER", .seekSync), (.processCandidate, "CAND_SKIP_RESERVED", .seekSync),
        (.processCandidate, "CAND_SKIP_PIDLOCK", .seekSync), (.processCandidate, "CAND_SKIP_NULL", .seekSync),
        (.processCandidate, "CAND_ISSUE", .waitDecoder), (.waitDecoder, "DEC_OK", .seekSync),
        (.waitDecoder, "DEC_FAIL", .seekSync), (.done, "START", .seekSync)] : List (Fsm × String × Fsm))

/-- From R201: only SEEK_SYNC and READ_PACKET take a token, and one token a step. The operations include START: that a
START in DONE leaves the old stream's EOS and unread bytes at the source port is no part of R201 but the model's
choice (log 24). -/
def Obligations.TokensAreTakenInTwoStatesOnly : Prop :=
  ∀ (i : Instr) (s t : State), exec i s = .next t →
    t.srcEos = s.srcEos ∧ (t.srcBytes = s.srcBytes ∨
      ((s.fsm = .seekSync ∨ s.fsm = .readPacket) ∧ ∃ b, s.srcBytes = b :: t.srcBytes))

/-! ### The invariant and the runs -/

/-- The invariant holds at power-on, with the model's values for what the spec leaves unspecified there (logs 1 and 2). -/
def Obligations.InvariantHoldsAtPowerOn : Prop := Inv State.reset

/-- Every step of every agent keeps the invariant: from R26, R27, R29, R33, R38, R40, R71, R132, R231 (Safety.lean says
which clause is whose). -/
def Obligations.InvariantIsKeptByEveryStep : Prop := ∀ s t : State, Inv s → step s = .next t → Inv t

/-- Under the invariant every operation completes or holds (R230), and the only step that stops is the host's read,
after START, of a register whose valid bit is 0 (R40 and I10; log 10). -/
def Obligations.NoOperationFaults : Prop :=
  ∀ s : State, Inv s →
    (∀ i : Instr, ∃ t, exec i s = .next t) ∧
    ((∃ t, step s = .next t) ∨
      ∃ r rest, s.turns = .host (.read r) :: rest ∧ s.readable r = false ∧ step s = .fault (.unspecifiedRead r))

/-- From R210, which the spec marks as derived: with room for two events and an answer at the decoder's port, a packet
is done at most 4 block steps after its 187th byte. -/
def Obligations.PacketIsDoneInFourSteps : Prop :=
  ∀ s : State, Inv s → s.turns = [] → s.fsm = .processHeader → s.evq.length + 2 ≤ s.params.fifoDepth →
    s.decAnswers ≠ [] →
    ∃ k t, k ≤ 4 ∧ Host.Core.run core k s = .next t ∧ t.fsm = .seekSync

/-- From R230 and R210: every stream whose source has ended, with an answer for every request and room for every event,
reaches DONE, whatever its bytes. -/
def Obligations.EveryEndedStreamReachesDone : Prop :=
  ∀ s : State, Inv s → s.turns = [] → s.fsm ≠ .idle → s.srcEos = true →
    s.srcBytes.length + 1 ≤ s.decAnswers.length →
    s.evq.length + 2 * (s.srcBytes.length + 1) ≤ s.params.fifoDepth →
    ∃ k t, Host.Core.run core k s = .next t ∧ t.fsm = .done

/-- From R99 (derived) with R98 (decision D21), R82, R84, R86 and R147: the bytes of a PESPTS line, read from SEEK_SYNC
in 190 block steps, emit the line's timestamp. -/
def Obligations.PesptsLineEmitsItsTimestamp : Prop :=
  ∀ (s : State) (pid : Pid) (cc : BitVec 4) (sid : Byte) (pts : Ticks) (line rest : List Byte),
    s.buf.wf = true → s.turns = [] → s.fsm = .seekSync → sid ∉ s.params.excludedIds →
    s.evq.length < s.params.fifoDepth →
    lineBytes s.params (.pespts pid cc sid pts) = some line → s.srcBytes = line ++ rest →
    ∃ t, Host.Core.run core 190 s = .next t ∧ t.evq = s.evq ++ [.ts pts] ∧ t.lastPts = pts ∧ t.hdr.pid = pid ∧
      t.srcBytes = rest ∧ t.fsm = .processCandidate
end

