-- ==== Sys2Proof/Laws/Codec.lean ====
section
/-! SUPPORT. The words of the formats and their fields: each reading gives back what its writing put in, and each
writing what its reading took out. -/

namespace Sys2Proof

/-- A field that lies in the low part of a concatenation. -/
theorem extract_append_lo {n m : Nat} (x : BitVec n) (y : BitVec m) (s l : Nat) (h : s + l ≤ m) :
    (x ++ y).extractLsb' s l = y.extractLsb' s l := by
  apply BitVec.eq_of_getLsbD_eq
  intro i hi
  rw [BitVec.getLsbD_extractLsb', BitVec.getLsbD_extractLsb', BitVec.getLsbD_append, if_pos (by omega)]

/-- A field that lies in the high part of a concatenation. -/
theorem extract_append_hi {n m : Nat} (x : BitVec n) (y : BitVec m) (s l : Nat) (h : m ≤ s) :
    (x ++ y).extractLsb' s l = x.extractLsb' (s - m) l := by
  apply BitVec.eq_of_getLsbD_eq
  intro i hi
  rw [BitVec.getLsbD_extractLsb', BitVec.getLsbD_extractLsb', BitVec.getLsbD_append, if_neg (by omega)]
  congr 2
  omega

/-- The field that is the whole value. -/
theorem extract_all {n : Nat} (x : BitVec n) : x.extractLsb' 0 n = x := by
  apply BitVec.eq_of_getLsbD_eq
  intro i hi
  simp [hi]

@[simp] theorem bitFlag_ofBool (b : Bool) : bitFlag (BitVec.ofBool b) = b := by cases b <;> rfl

theorem byteWord_eosBit (b : Byte) : (0#1 ++ b).getLsbD 8 = false := by
  rw [BitVec.getLsbD_append, if_neg (by omega)]
  rfl

theorem byteWord_byte (b : Byte) : (0#1 ++ b).extractLsb' 0 8 = b :=
  (extract_append_lo _ _ _ _ (by omega)).trans (extract_all b)

@[simp] theorem Token.ofWord_toWord (t : Token) : Token.ofWord t.toWord = t := by
  cases t with
  | byte b =>
      refine (if_neg ?_).trans (congrArg Token.byte (byteWord_byte b))
      exact fun h => Bool.false_ne_true ((byteWord_eosBit b).symm.trans h)
  | eos => rfl

@[simp] theorem Header.ofWord_toWord (h : Header) : Header.ofWord h.toWord = h := by
  obtain ⟨tei, pusi, prio, pid, tsc, afc, cc⟩ := h
  simp only [Header.ofWord, Header.toWord, Header.mk.injEq]
  refine ⟨?_, ?_, ?_, ?_, ?_, ?_, ?_⟩ <;>
    repeat (first
      | rw [extract_append_lo _ _ _ _ (by omega)]
      | rw [extract_append_hi _ _ _ _ (by omega)])
  all_goals first
    | exact extract_all _
    | (refine Eq.trans (congrArg bitFlag (extract_all _)) ?_; exact bitFlag_ofBool _)

@[simp] theorem CandWindow.ofWord_toWord (c : CandWindow) : CandWindow.ofWord c.toWord = c := by
  obtain ⟨marker, pid, nullByte⟩ := c
  simp only [CandWindow.ofWord, CandWindow.toWord, CandWindow.mk.injEq]
  refine ⟨?_, ?_, ?_⟩ <;>
    repeat (first
      | rw [extract_append_lo _ _ _ _ (by omega)]
      | rw [extract_append_hi _ _ _ _ (by omega)])
  all_goals exact extract_all _

@[simp] theorem PesWindow.ofWord_toWord (w : PesWindow) : PesWindow.ofWord w.toWord = w := by
  obtain ⟨f1, f2, f3, f4, f5, f6, f7, f8, f9, f10, f11, f12, f13, f14, f15, f16, f17, f18⟩ := w
  simp only [PesWindow.ofWord, PesWindow.toWord, windowField, PesWindow.mk.injEq]
  refine ⟨?_, ?_, ?_, ?_, ?_, ?_, ?_, ?_, ?_, ?_, ?_, ?_, ?_, ?_, ?_, ?_, ?_, ?_⟩ <;>
    repeat (first
      | rw [extract_append_lo _ _ _ _ (by omega)]
      | rw [extract_append_hi _ _ _ _ (by omega)])
  all_goals exact extract_all _

/-! ### The other way round -/

/-- Two neighbouring fields, joined. -/
theorem extract_join {w : Nat} (x : BitVec w) (s l n : Nat) :
    x.extractLsb' (s + l) n ++ x.extractLsb' s l = x.extractLsb' s (n + l) := by
  apply BitVec.eq_of_getLsbD_eq
  intro i hi
  rw [BitVec.getLsbD_append]
  by_cases h : i < l
  · simp [h, hi]
  · have h' : i - l < n := by omega
    rw [if_neg h, BitVec.getLsbD_extractLsb', BitVec.getLsbD_extractLsb']
    have e : s + l + (i - l) = s + i := by omega
    simp [h', hi, e]

theorem ofBool_bitFlag (b : BitVec 1) : BitVec.ofBool (bitFlag b) = b := by
  apply BitVec.eq_of_getLsbD_eq
  intro i hi
  have : i = 0 := by omega
  subst this
  simp [bitFlag]

@[simp] theorem Header.toWord_ofWord (h : BitVec 24) : (Header.ofWord h).toWord = h := by
  simp only [Header.toWord, Header.ofWord, ofBool_bitFlag]
  refine Eq.trans ?_ (extract_all h)
  have e1 : h.extractLsb' 23 1 ++ h.extractLsb' 22 1 = h.extractLsb' 22 2 := extract_join h 22 1 1
  have e2 : h.extractLsb' 22 2 ++ h.extractLsb' 21 1 = h.extractLsb' 21 3 := extract_join h 21 1 2
  have e3 : h.extractLsb' 21 3 ++ h.extractLsb' 8 13 = h.extractLsb' 8 16 := extract_join h 8 13 3
  have e4 : h.extractLsb' 8 16 ++ h.extractLsb' 6 2 = h.extractLsb' 6 18 := extract_join h 6 2 16
  have e5 : h.extractLsb' 6 18 ++ h.extractLsb' 4 2 = h.extractLsb' 4 20 := extract_join h 4 2 18
  have e6 : h.extractLsb' 4 20 ++ h.extractLsb' 0 4 = h.extractLsb' 0 24 := extract_join h 0 4 20
  rw [e1, e2, e3, e4, e5]
  exact e6

@[simp] theorem CandWindow.toWord_ofWord (c : BitVec 29) : (CandWindow.ofWord c).toWord = c := by
  simp only [CandWindow.toWord, CandWindow.ofWord]
  refine Eq.trans ?_ (extract_all c)
  have e1 : c.extractLsb' 21 8 ++ c.extractLsb' 8 13 = c.extractLsb' 8 21 := extract_join c 8 13 8
  have e2 : c.extractLsb' 8 21 ++ c.extractLsb' 0 8 = c.extractLsb' 0 29 := extract_join c 0 8 21
  rw [e1]
  exact e2

@[simp] theorem PesWindow.toWord_ofWord (w : BitVec 112) : (PesWindow.ofWord w).toWord = w := by
  simp only [PesWindow.toWord, PesWindow.ofWord, windowField]
  refine Eq.trans ?_ (extract_all w)
  have e1 : w.extractLsb' 88 24 ++ w.extractLsb' 80 8 = w.extractLsb' 80 32 := extract_join w 80 8 24
  have e2 : w.extractLsb' 80 32 ++ w.extractLsb' 64 16 = w.extractLsb' 64 48 := extract_join w 64 16 32
  have e3 : w.extractLsb' 64 48 ++ w.extractLsb' 62 2 = w.extractLsb' 62 50 := extract_join w 62 2 48
  have e4 : w.extractLsb' 62 50 ++ w.extractLsb' 60 2 = w.extractLsb' 60 52 := extract_join w 60 2 50
  have e5 : w.extractLsb' 60 52 ++ w.extractLsb' 59 1 = w.extractLsb' 59 53 := extract_join w 59 1 52
  have e6 : w.extractLsb' 59 53 ++ w.extractLsb' 58 1 = w.extractLsb' 58 54 := extract_join w 58 1 53
  have e7 : w.extractLsb' 58 54 ++ w.extractLsb' 57 1 = w.extractLsb' 57 55 := extract_join w 57 1 54
  have e8 : w.extractLsb' 57 55 ++ w.extractLsb' 56 1 = w.extractLsb' 56 56 := extract_join w 56 1 55
  have e9 : w.extractLsb' 56 56 ++ w.extractLsb' 54 2 = w.extractLsb' 54 58 := extract_join w 54 2 56
  have e10 : w.extractLsb' 54 58 ++ w.extractLsb' 40 14 = w.extractLsb' 40 72 := extract_join w 40 14 58
  have e11 : w.extractLsb' 40 72 ++ w.extractLsb' 36 4 = w.extractLsb' 36 76 := extract_join w 36 4 72
  have e12 : w.extractLsb' 36 76 ++ w.extractLsb' 33 3 = w.extractLsb' 33 79 := extract_join w 33 3 76
  have e13 : w.extractLsb' 33 79 ++ w.extractLsb' 32 1 = w.extractLsb' 32 80 := extract_join w 32 1 79
  have e14 : w.extractLsb' 32 80 ++ w.extractLsb' 17 15 = w.extractLsb' 17 95 := extract_join w 17 15 80
  have e15 : w.extractLsb' 17 95 ++ w.extractLsb' 16 1 = w.extractLsb' 16 96 := extract_join w 16 1 95
  have e16 : w.extractLsb' 16 96 ++ w.extractLsb' 1 15 = w.extractLsb' 1 111 := extract_join w 1 15 96
  have e17 : w.extractLsb' 1 111 ++ w.extractLsb' 0 1 = w.extractLsb' 0 112 := extract_join w 0 1 111
  rw [e1, e2, e3, e4, e5, e6, e7, e8, e9, e10, e11, e12, e13, e14, e15, e16]
  exact e17

/-- A canonical source word is the word of the token it stands for. -/
theorem Token.toWord_ofWord (t : BitVec 9) (h : (InputWord.src t).canonical = true) : (Token.ofWord t).toWord = t := by
  simp only [InputWord.canonical, Bool.or_eq_true, Bool.not_eq_true', decide_eq_true_eq] at h
  unfold Token.ofWord
  split
  · next h8 =>
      rcases h with h | h
      · rw [h] at h8; exact absurd h8 (by decide)
      · exact h.symm
  · next h8 =>
      have top : t.extractLsb' 8 1 = 0#1 := by
        apply BitVec.eq_of_getLsbD_eq
        intro i hi
        have : i = 0 := by omega
        subst this
        simpa using h8
      have e : t.extractLsb' 8 1 ++ t.extractLsb' 0 8 = t.extractLsb' 0 9 := extract_join t 0 8 1
      rw [top] at e
      exact e.trans (extract_all t)

end Sys2Proof
end

