-- ==== Sys2Proof/Laws/State.lean ====
section
/-! SUPPORT. For each named update of State, what every field holds after it. -/

namespace Sys2Proof.Machine

variable (s : State)

/-! ### goto -/

@[simp] theorem State.goto_cfgShowNull (f : Fsm) : (s.goto f).cfgShowNull = s.cfgShowNull := rfl
@[simp] theorem State.goto_cfgPidFilterEn (f : Fsm) : (s.goto f).cfgPidFilterEn = s.cfgPidFilterEn := rfl
@[simp] theorem State.goto_cfgPidFilter (f : Fsm) : (s.goto f).cfgPidFilter = s.cfgPidFilter := rfl
@[simp] theorem State.goto_cfgResync (f : Fsm) : (s.goto f).cfgResync = s.cfgResync := rfl
@[simp] theorem State.goto_fsm (f : Fsm) : (s.goto f).fsm = f := rfl
@[simp] theorem State.goto_pktCnt (f : Fsm) : (s.goto f).pktCnt = s.pktCnt := rfl
@[simp] theorem State.goto_buf (f : Fsm) : (s.goto f).buf = s.buf := rfl
@[simp] theorem State.goto_hdr (f : Fsm) : (s.goto f).hdr = s.hdr := rfl
@[simp] theorem State.goto_lockValid (f : Fsm) : (s.goto f).lockValid = s.lockValid := rfl
@[simp] theorem State.goto_lockPid (f : Fsm) : (s.goto f).lockPid = s.lockPid := rfl
@[simp] theorem State.goto_lastPtsValid (f : Fsm) : (s.goto f).lastPtsValid = s.lastPtsValid := rfl
@[simp] theorem State.goto_lastPts (f : Fsm) : (s.goto f).lastPts = s.lastPts := rfl
@[simp] theorem State.goto_lastSectionValid (f : Fsm) : (s.goto f).lastSectionValid = s.lastSectionValid := rfl
@[simp] theorem State.goto_lastSection (f : Fsm) : (s.goto f).lastSection = s.lastSection := rfl
@[simp] theorem State.goto_doneReason (f : Fsm) : (s.goto f).doneReason = s.doneReason := rfl
@[simp] theorem State.goto_evq (f : Fsm) : (s.goto f).evq = s.evq := rfl
@[simp] theorem State.goto_cnt (f : Fsm) : (s.goto f).cnt = s.cnt := rfl
@[simp] theorem State.goto_params (f : Fsm) : (s.goto f).params = s.params := rfl
@[simp] theorem State.goto_hostIn (f : Fsm) : (s.goto f).hostIn = s.hostIn := rfl
@[simp] theorem State.goto_srcBytes (f : Fsm) : (s.goto f).srcBytes = s.srcBytes := rfl
@[simp] theorem State.goto_srcEos (f : Fsm) : (s.goto f).srcEos = s.srcEos := rfl
@[simp] theorem State.goto_decReq (f : Fsm) : (s.goto f).decReq = s.decReq := rfl
@[simp] theorem State.goto_decAnswers (f : Fsm) : (s.goto f).decAnswers = s.decAnswers := rfl
@[simp] theorem State.goto_sinkSeen (f : Fsm) : (s.goto f).sinkSeen = s.sinkSeen := rfl
@[simp] theorem State.goto_hostSeen (f : Fsm) : (s.goto f).hostSeen = s.hostSeen := rfl
@[simp] theorem State.goto_hostRefused (f : Fsm) : (s.goto f).hostRefused = s.hostRefused := rfl
@[simp] theorem State.goto_turns (f : Fsm) : (s.goto f).turns = s.turns := rfl

/-! ### setPktCnt -/

@[simp] theorem State.setPktCnt_cfgShowNull (n : BitVec 8) : (s.setPktCnt n).cfgShowNull = s.cfgShowNull := rfl
@[simp] theorem State.setPktCnt_cfgPidFilterEn (n : BitVec 8) : (s.setPktCnt n).cfgPidFilterEn = s.cfgPidFilterEn := rfl
@[simp] theorem State.setPktCnt_cfgPidFilter (n : BitVec 8) : (s.setPktCnt n).cfgPidFilter = s.cfgPidFilter := rfl
@[simp] theorem State.setPktCnt_cfgResync (n : BitVec 8) : (s.setPktCnt n).cfgResync = s.cfgResync := rfl
@[simp] theorem State.setPktCnt_fsm (n : BitVec 8) : (s.setPktCnt n).fsm = s.fsm := rfl
@[simp] theorem State.setPktCnt_pktCnt (n : BitVec 8) : (s.setPktCnt n).pktCnt = n := rfl
@[simp] theorem State.setPktCnt_buf (n : BitVec 8) : (s.setPktCnt n).buf = s.buf := rfl
@[simp] theorem State.setPktCnt_hdr (n : BitVec 8) : (s.setPktCnt n).hdr = s.hdr := rfl
@[simp] theorem State.setPktCnt_lockValid (n : BitVec 8) : (s.setPktCnt n).lockValid = s.lockValid := rfl
@[simp] theorem State.setPktCnt_lockPid (n : BitVec 8) : (s.setPktCnt n).lockPid = s.lockPid := rfl
@[simp] theorem State.setPktCnt_lastPtsValid (n : BitVec 8) : (s.setPktCnt n).lastPtsValid = s.lastPtsValid := rfl
@[simp] theorem State.setPktCnt_lastPts (n : BitVec 8) : (s.setPktCnt n).lastPts = s.lastPts := rfl
@[simp] theorem State.setPktCnt_lastSectionValid (n : BitVec 8) : (s.setPktCnt n).lastSectionValid = s.lastSectionValid := rfl
@[simp] theorem State.setPktCnt_lastSection (n : BitVec 8) : (s.setPktCnt n).lastSection = s.lastSection := rfl
@[simp] theorem State.setPktCnt_doneReason (n : BitVec 8) : (s.setPktCnt n).doneReason = s.doneReason := rfl
@[simp] theorem State.setPktCnt_evq (n : BitVec 8) : (s.setPktCnt n).evq = s.evq := rfl
@[simp] theorem State.setPktCnt_cnt (n : BitVec 8) : (s.setPktCnt n).cnt = s.cnt := rfl
@[simp] theorem State.setPktCnt_params (n : BitVec 8) : (s.setPktCnt n).params = s.params := rfl
@[simp] theorem State.setPktCnt_hostIn (n : BitVec 8) : (s.setPktCnt n).hostIn = s.hostIn := rfl
@[simp] theorem State.setPktCnt_srcBytes (n : BitVec 8) : (s.setPktCnt n).srcBytes = s.srcBytes := rfl
@[simp] theorem State.setPktCnt_srcEos (n : BitVec 8) : (s.setPktCnt n).srcEos = s.srcEos := rfl
@[simp] theorem State.setPktCnt_decReq (n : BitVec 8) : (s.setPktCnt n).decReq = s.decReq := rfl
@[simp] theorem State.setPktCnt_decAnswers (n : BitVec 8) : (s.setPktCnt n).decAnswers = s.decAnswers := rfl
@[simp] theorem State.setPktCnt_sinkSeen (n : BitVec 8) : (s.setPktCnt n).sinkSeen = s.sinkSeen := rfl
@[simp] theorem State.setPktCnt_hostSeen (n : BitVec 8) : (s.setPktCnt n).hostSeen = s.hostSeen := rfl
@[simp] theorem State.setPktCnt_hostRefused (n : BitVec 8) : (s.setPktCnt n).hostRefused = s.hostRefused := rfl
@[simp] theorem State.setPktCnt_turns (n : BitVec 8) : (s.setPktCnt n).turns = s.turns := rfl

/-! ### srcRead -/

@[simp] theorem State.srcRead_cfgShowNull : s.srcRead.cfgShowNull = s.cfgShowNull := rfl
@[simp] theorem State.srcRead_cfgPidFilterEn : s.srcRead.cfgPidFilterEn = s.cfgPidFilterEn := rfl
@[simp] theorem State.srcRead_cfgPidFilter : s.srcRead.cfgPidFilter = s.cfgPidFilter := rfl
@[simp] theorem State.srcRead_cfgResync : s.srcRead.cfgResync = s.cfgResync := rfl
@[simp] theorem State.srcRead_fsm : s.srcRead.fsm = s.fsm := rfl
@[simp] theorem State.srcRead_pktCnt : s.srcRead.pktCnt = s.pktCnt := rfl
@[simp] theorem State.srcRead_buf : s.srcRead.buf = s.buf := rfl
@[simp] theorem State.srcRead_hdr : s.srcRead.hdr = s.hdr := rfl
@[simp] theorem State.srcRead_lockValid : s.srcRead.lockValid = s.lockValid := rfl
@[simp] theorem State.srcRead_lockPid : s.srcRead.lockPid = s.lockPid := rfl
@[simp] theorem State.srcRead_lastPtsValid : s.srcRead.lastPtsValid = s.lastPtsValid := rfl
@[simp] theorem State.srcRead_lastPts : s.srcRead.lastPts = s.lastPts := rfl
@[simp] theorem State.srcRead_lastSectionValid : s.srcRead.lastSectionValid = s.lastSectionValid := rfl
@[simp] theorem State.srcRead_lastSection : s.srcRead.lastSection = s.lastSection := rfl
@[simp] theorem State.srcRead_doneReason : s.srcRead.doneReason = s.doneReason := rfl
@[simp] theorem State.srcRead_evq : s.srcRead.evq = s.evq := rfl
@[simp] theorem State.srcRead_cnt : s.srcRead.cnt = s.cnt := rfl
@[simp] theorem State.srcRead_params : s.srcRead.params = s.params := rfl
@[simp] theorem State.srcRead_hostIn : s.srcRead.hostIn = s.hostIn := rfl
@[simp] theorem State.srcRead_srcBytes : s.srcRead.srcBytes = s.srcBytes.tail := rfl
@[simp] theorem State.srcRead_srcEos : s.srcRead.srcEos = s.srcEos := rfl
@[simp] theorem State.srcRead_decReq : s.srcRead.decReq = s.decReq := rfl
@[simp] theorem State.srcRead_decAnswers : s.srcRead.decAnswers = s.decAnswers := rfl
@[simp] theorem State.srcRead_sinkSeen : s.srcRead.sinkSeen = s.sinkSeen := rfl
@[simp] theorem State.srcRead_hostSeen : s.srcRead.hostSeen = s.hostSeen := rfl
@[simp] theorem State.srcRead_hostRefused : s.srcRead.hostRefused = s.hostRefused := rfl
@[simp] theorem State.srcRead_turns : s.srcRead.turns = s.turns := rfl

/-! ### count -/

@[simp] theorem State.count_cfgShowNull (c : Counter) : (s.count c).cfgShowNull = s.cfgShowNull := rfl
@[simp] theorem State.count_cfgPidFilterEn (c : Counter) : (s.count c).cfgPidFilterEn = s.cfgPidFilterEn := rfl
@[simp] theorem State.count_cfgPidFilter (c : Counter) : (s.count c).cfgPidFilter = s.cfgPidFilter := rfl
@[simp] theorem State.count_cfgResync (c : Counter) : (s.count c).cfgResync = s.cfgResync := rfl
@[simp] theorem State.count_fsm (c : Counter) : (s.count c).fsm = s.fsm := rfl
@[simp] theorem State.count_pktCnt (c : Counter) : (s.count c).pktCnt = s.pktCnt := rfl
@[simp] theorem State.count_buf (c : Counter) : (s.count c).buf = s.buf := rfl
@[simp] theorem State.count_hdr (c : Counter) : (s.count c).hdr = s.hdr := rfl
@[simp] theorem State.count_lockValid (c : Counter) : (s.count c).lockValid = s.lockValid := rfl
@[simp] theorem State.count_lockPid (c : Counter) : (s.count c).lockPid = s.lockPid := rfl
@[simp] theorem State.count_lastPtsValid (c : Counter) : (s.count c).lastPtsValid = s.lastPtsValid := rfl
@[simp] theorem State.count_lastPts (c : Counter) : (s.count c).lastPts = s.lastPts := rfl
@[simp] theorem State.count_lastSectionValid (c : Counter) : (s.count c).lastSectionValid = s.lastSectionValid := rfl
@[simp] theorem State.count_lastSection (c : Counter) : (s.count c).lastSection = s.lastSection := rfl
@[simp] theorem State.count_doneReason (c : Counter) : (s.count c).doneReason = s.doneReason := rfl
@[simp] theorem State.count_evq (c : Counter) : (s.count c).evq = s.evq := rfl
@[simp] theorem State.count_cnt (c : Counter) : (s.count c).cnt = s.cnt.bump c := rfl
@[simp] theorem State.count_params (c : Counter) : (s.count c).params = s.params := rfl
@[simp] theorem State.count_hostIn (c : Counter) : (s.count c).hostIn = s.hostIn := rfl
@[simp] theorem State.count_srcBytes (c : Counter) : (s.count c).srcBytes = s.srcBytes := rfl
@[simp] theorem State.count_srcEos (c : Counter) : (s.count c).srcEos = s.srcEos := rfl
@[simp] theorem State.count_decReq (c : Counter) : (s.count c).decReq = s.decReq := rfl
@[simp] theorem State.count_decAnswers (c : Counter) : (s.count c).decAnswers = s.decAnswers := rfl
@[simp] theorem State.count_sinkSeen (c : Counter) : (s.count c).sinkSeen = s.sinkSeen := rfl
@[simp] theorem State.count_hostSeen (c : Counter) : (s.count c).hostSeen = s.hostSeen := rfl
@[simp] theorem State.count_hostRefused (c : Counter) : (s.count c).hostRefused = s.hostRefused := rfl
@[simp] theorem State.count_turns (c : Counter) : (s.count c).turns = s.turns := rfl

/-! ### terminate -/

@[simp] theorem State.terminate_cfgShowNull (r : DoneReason) : (s.terminate r).cfgShowNull = s.cfgShowNull := rfl
@[simp] theorem State.terminate_cfgPidFilterEn (r : DoneReason) : (s.terminate r).cfgPidFilterEn = s.cfgPidFilterEn := rfl
@[simp] theorem State.terminate_cfgPidFilter (r : DoneReason) : (s.terminate r).cfgPidFilter = s.cfgPidFilter := rfl
@[simp] theorem State.terminate_cfgResync (r : DoneReason) : (s.terminate r).cfgResync = s.cfgResync := rfl
@[simp] theorem State.terminate_fsm (r : DoneReason) : (s.terminate r).fsm = .done := rfl
@[simp] theorem State.terminate_pktCnt (r : DoneReason) : (s.terminate r).pktCnt = s.pktCnt := rfl
@[simp] theorem State.terminate_buf (r : DoneReason) : (s.terminate r).buf = s.buf := rfl
@[simp] theorem State.terminate_hdr (r : DoneReason) : (s.terminate r).hdr = s.hdr := rfl
@[simp] theorem State.terminate_lockValid (r : DoneReason) : (s.terminate r).lockValid = s.lockValid := rfl
@[simp] theorem State.terminate_lockPid (r : DoneReason) : (s.terminate r).lockPid = s.lockPid := rfl
@[simp] theorem State.terminate_lastPtsValid (r : DoneReason) : (s.terminate r).lastPtsValid = s.lastPtsValid := rfl
@[simp] theorem State.terminate_lastPts (r : DoneReason) : (s.terminate r).lastPts = s.lastPts := rfl
@[simp] theorem State.terminate_lastSectionValid (r : DoneReason) : (s.terminate r).lastSectionValid = s.lastSectionValid := rfl
@[simp] theorem State.terminate_lastSection (r : DoneReason) : (s.terminate r).lastSection = s.lastSection := rfl
@[simp] theorem State.terminate_doneReason (r : DoneReason) : (s.terminate r).doneReason = r := rfl
@[simp] theorem State.terminate_evq (r : DoneReason) : (s.terminate r).evq = s.evq := rfl
@[simp] theorem State.terminate_cnt (r : DoneReason) : (s.terminate r).cnt = s.cnt := rfl
@[simp] theorem State.terminate_params (r : DoneReason) : (s.terminate r).params = s.params := rfl
@[simp] theorem State.terminate_hostIn (r : DoneReason) : (s.terminate r).hostIn = s.hostIn := rfl
@[simp] theorem State.terminate_srcBytes (r : DoneReason) : (s.terminate r).srcBytes = s.srcBytes := rfl
@[simp] theorem State.terminate_srcEos (r : DoneReason) : (s.terminate r).srcEos = s.srcEos := rfl
@[simp] theorem State.terminate_decReq (r : DoneReason) : (s.terminate r).decReq = s.decReq := rfl
@[simp] theorem State.terminate_decAnswers (r : DoneReason) : (s.terminate r).decAnswers = s.decAnswers := rfl
@[simp] theorem State.terminate_sinkSeen (r : DoneReason) : (s.terminate r).sinkSeen = s.sinkSeen := rfl
@[simp] theorem State.terminate_hostSeen (r : DoneReason) : (s.terminate r).hostSeen = s.hostSeen := rfl
@[simp] theorem State.terminate_hostRefused (r : DoneReason) : (s.terminate r).hostRefused = s.hostRefused := rfl
@[simp] theorem State.terminate_turns (r : DoneReason) : (s.terminate r).turns = s.turns := rfl

/-! ### skip -/

@[simp] theorem State.skip_cfgShowNull (c : Counter) : (s.skip c).cfgShowNull = s.cfgShowNull := rfl
@[simp] theorem State.skip_cfgPidFilterEn (c : Counter) : (s.skip c).cfgPidFilterEn = s.cfgPidFilterEn := rfl
@[simp] theorem State.skip_cfgPidFilter (c : Counter) : (s.skip c).cfgPidFilter = s.cfgPidFilter := rfl
@[simp] theorem State.skip_cfgResync (c : Counter) : (s.skip c).cfgResync = s.cfgResync := rfl
@[simp] theorem State.skip_fsm (c : Counter) : (s.skip c).fsm = .seekSync := rfl
@[simp] theorem State.skip_pktCnt (c : Counter) : (s.skip c).pktCnt = s.pktCnt := rfl
@[simp] theorem State.skip_buf (c : Counter) : (s.skip c).buf = s.buf := rfl
@[simp] theorem State.skip_hdr (c : Counter) : (s.skip c).hdr = s.hdr := rfl
@[simp] theorem State.skip_lockValid (c : Counter) : (s.skip c).lockValid = s.lockValid := rfl
@[simp] theorem State.skip_lockPid (c : Counter) : (s.skip c).lockPid = s.lockPid := rfl
@[simp] theorem State.skip_lastPtsValid (c : Counter) : (s.skip c).lastPtsValid = s.lastPtsValid := rfl
@[simp] theorem State.skip_lastPts (c : Counter) : (s.skip c).lastPts = s.lastPts := rfl
@[simp] theorem State.skip_lastSectionValid (c : Counter) : (s.skip c).lastSectionValid = s.lastSectionValid := rfl
@[simp] theorem State.skip_lastSection (c : Counter) : (s.skip c).lastSection = s.lastSection := rfl
@[simp] theorem State.skip_doneReason (c : Counter) : (s.skip c).doneReason = s.doneReason := rfl
@[simp] theorem State.skip_evq (c : Counter) : (s.skip c).evq = s.evq := rfl
@[simp] theorem State.skip_cnt (c : Counter) : (s.skip c).cnt = s.cnt.bump c := rfl
@[simp] theorem State.skip_params (c : Counter) : (s.skip c).params = s.params := rfl
@[simp] theorem State.skip_hostIn (c : Counter) : (s.skip c).hostIn = s.hostIn := rfl
@[simp] theorem State.skip_srcBytes (c : Counter) : (s.skip c).srcBytes = s.srcBytes := rfl
@[simp] theorem State.skip_srcEos (c : Counter) : (s.skip c).srcEos = s.srcEos := rfl
@[simp] theorem State.skip_decReq (c : Counter) : (s.skip c).decReq = s.decReq := rfl
@[simp] theorem State.skip_decAnswers (c : Counter) : (s.skip c).decAnswers = s.decAnswers := rfl
@[simp] theorem State.skip_sinkSeen (c : Counter) : (s.skip c).sinkSeen = s.sinkSeen := rfl
@[simp] theorem State.skip_hostSeen (c : Counter) : (s.skip c).hostSeen = s.hostSeen := rfl
@[simp] theorem State.skip_hostRefused (c : Counter) : (s.skip c).hostRefused = s.hostRefused := rfl
@[simp] theorem State.skip_turns (c : Counter) : (s.skip c).turns = s.turns := rfl

/-! ### withByte -/

@[simp] theorem State.withByte_cfgShowNull (a : Nat) (b : Byte) : (s.withByte a b).cfgShowNull = s.cfgShowNull := rfl
@[simp] theorem State.withByte_cfgPidFilterEn (a : Nat) (b : Byte) : (s.withByte a b).cfgPidFilterEn = s.cfgPidFilterEn := rfl
@[simp] theorem State.withByte_cfgPidFilter (a : Nat) (b : Byte) : (s.withByte a b).cfgPidFilter = s.cfgPidFilter := rfl
@[simp] theorem State.withByte_cfgResync (a : Nat) (b : Byte) : (s.withByte a b).cfgResync = s.cfgResync := rfl
@[simp] theorem State.withByte_fsm (a : Nat) (b : Byte) : (s.withByte a b).fsm = s.fsm := rfl
@[simp] theorem State.withByte_pktCnt (a : Nat) (b : Byte) : (s.withByte a b).pktCnt = s.pktCnt := rfl
@[simp] theorem State.withByte_buf (a : Nat) (b : Byte) : (s.withByte a b).buf = s.buf.write a b := rfl
@[simp] theorem State.withByte_hdr (a : Nat) (b : Byte) : (s.withByte a b).hdr = s.hdr := rfl
@[simp] theorem State.withByte_lockValid (a : Nat) (b : Byte) : (s.withByte a b).lockValid = s.lockValid := rfl
@[simp] theorem State.withByte_lockPid (a : Nat) (b : Byte) : (s.withByte a b).lockPid = s.lockPid := rfl
@[simp] theorem State.withByte_lastPtsValid (a : Nat) (b : Byte) : (s.withByte a b).lastPtsValid = s.lastPtsValid := rfl
@[simp] theorem State.withByte_lastPts (a : Nat) (b : Byte) : (s.withByte a b).lastPts = s.lastPts := rfl
@[simp] theorem State.withByte_lastSectionValid (a : Nat) (b : Byte) : (s.withByte a b).lastSectionValid = s.lastSectionValid := rfl
@[simp] theorem State.withByte_lastSection (a : Nat) (b : Byte) : (s.withByte a b).lastSection = s.lastSection := rfl
@[simp] theorem State.withByte_doneReason (a : Nat) (b : Byte) : (s.withByte a b).doneReason = s.doneReason := rfl
@[simp] theorem State.withByte_evq (a : Nat) (b : Byte) : (s.withByte a b).evq = s.evq := rfl
@[simp] theorem State.withByte_cnt (a : Nat) (b : Byte) : (s.withByte a b).cnt = s.cnt := rfl
@[simp] theorem State.withByte_params (a : Nat) (b : Byte) : (s.withByte a b).params = s.params := rfl
@[simp] theorem State.withByte_hostIn (a : Nat) (b : Byte) : (s.withByte a b).hostIn = s.hostIn := rfl
@[simp] theorem State.withByte_srcBytes (a : Nat) (b : Byte) : (s.withByte a b).srcBytes = s.srcBytes := rfl
@[simp] theorem State.withByte_srcEos (a : Nat) (b : Byte) : (s.withByte a b).srcEos = s.srcEos := rfl
@[simp] theorem State.withByte_decReq (a : Nat) (b : Byte) : (s.withByte a b).decReq = s.decReq := rfl
@[simp] theorem State.withByte_decAnswers (a : Nat) (b : Byte) : (s.withByte a b).decAnswers = s.decAnswers := rfl
@[simp] theorem State.withByte_sinkSeen (a : Nat) (b : Byte) : (s.withByte a b).sinkSeen = s.sinkSeen := rfl
@[simp] theorem State.withByte_hostSeen (a : Nat) (b : Byte) : (s.withByte a b).hostSeen = s.hostSeen := rfl
@[simp] theorem State.withByte_hostRefused (a : Nat) (b : Byte) : (s.withByte a b).hostRefused = s.hostRefused := rfl
@[simp] theorem State.withByte_turns (a : Nat) (b : Byte) : (s.withByte a b).turns = s.turns := rfl

/-! ### setHdr -/

@[simp] theorem State.setHdr_cfgShowNull (h : Header) : (s.setHdr h).cfgShowNull = s.cfgShowNull := rfl
@[simp] theorem State.setHdr_cfgPidFilterEn (h : Header) : (s.setHdr h).cfgPidFilterEn = s.cfgPidFilterEn := rfl
@[simp] theorem State.setHdr_cfgPidFilter (h : Header) : (s.setHdr h).cfgPidFilter = s.cfgPidFilter := rfl
@[simp] theorem State.setHdr_cfgResync (h : Header) : (s.setHdr h).cfgResync = s.cfgResync := rfl
@[simp] theorem State.setHdr_fsm (h : Header) : (s.setHdr h).fsm = s.fsm := rfl
@[simp] theorem State.setHdr_pktCnt (h : Header) : (s.setHdr h).pktCnt = s.pktCnt := rfl
@[simp] theorem State.setHdr_buf (h : Header) : (s.setHdr h).buf = s.buf := rfl
@[simp] theorem State.setHdr_hdr (h : Header) : (s.setHdr h).hdr = h := rfl
@[simp] theorem State.setHdr_lockValid (h : Header) : (s.setHdr h).lockValid = s.lockValid := rfl
@[simp] theorem State.setHdr_lockPid (h : Header) : (s.setHdr h).lockPid = s.lockPid := rfl
@[simp] theorem State.setHdr_lastPtsValid (h : Header) : (s.setHdr h).lastPtsValid = s.lastPtsValid := rfl
@[simp] theorem State.setHdr_lastPts (h : Header) : (s.setHdr h).lastPts = s.lastPts := rfl
@[simp] theorem State.setHdr_lastSectionValid (h : Header) : (s.setHdr h).lastSectionValid = s.lastSectionValid := rfl
@[simp] theorem State.setHdr_lastSection (h : Header) : (s.setHdr h).lastSection = s.lastSection := rfl
@[simp] theorem State.setHdr_doneReason (h : Header) : (s.setHdr h).doneReason = s.doneReason := rfl
@[simp] theorem State.setHdr_evq (h : Header) : (s.setHdr h).evq = s.evq := rfl
@[simp] theorem State.setHdr_cnt (h : Header) : (s.setHdr h).cnt = s.cnt := rfl
@[simp] theorem State.setHdr_params (h : Header) : (s.setHdr h).params = s.params := rfl
@[simp] theorem State.setHdr_hostIn (h : Header) : (s.setHdr h).hostIn = s.hostIn := rfl
@[simp] theorem State.setHdr_srcBytes (h : Header) : (s.setHdr h).srcBytes = s.srcBytes := rfl
@[simp] theorem State.setHdr_srcEos (h : Header) : (s.setHdr h).srcEos = s.srcEos := rfl
@[simp] theorem State.setHdr_decReq (h : Header) : (s.setHdr h).decReq = s.decReq := rfl
@[simp] theorem State.setHdr_decAnswers (h : Header) : (s.setHdr h).decAnswers = s.decAnswers := rfl
@[simp] theorem State.setHdr_sinkSeen (h : Header) : (s.setHdr h).sinkSeen = s.sinkSeen := rfl
@[simp] theorem State.setHdr_hostSeen (h : Header) : (s.setHdr h).hostSeen = s.hostSeen := rfl
@[simp] theorem State.setHdr_hostRefused (h : Header) : (s.setHdr h).hostRefused = s.hostRefused := rfl
@[simp] theorem State.setHdr_turns (h : Header) : (s.setHdr h).turns = s.turns := rfl

/-! ### latchPts -/

@[simp] theorem State.latchPts_cfgShowNull (raw : Ticks) : (s.latchPts raw).cfgShowNull = s.cfgShowNull := rfl
@[simp] theorem State.latchPts_cfgPidFilterEn (raw : Ticks) : (s.latchPts raw).cfgPidFilterEn = s.cfgPidFilterEn := rfl
@[simp] theorem State.latchPts_cfgPidFilter (raw : Ticks) : (s.latchPts raw).cfgPidFilter = s.cfgPidFilter := rfl
@[simp] theorem State.latchPts_cfgResync (raw : Ticks) : (s.latchPts raw).cfgResync = s.cfgResync := rfl
@[simp] theorem State.latchPts_fsm (raw : Ticks) : (s.latchPts raw).fsm = s.fsm := rfl
@[simp] theorem State.latchPts_pktCnt (raw : Ticks) : (s.latchPts raw).pktCnt = s.pktCnt := rfl
@[simp] theorem State.latchPts_buf (raw : Ticks) : (s.latchPts raw).buf = s.buf := rfl
@[simp] theorem State.latchPts_hdr (raw : Ticks) : (s.latchPts raw).hdr = s.hdr := rfl
@[simp] theorem State.latchPts_lockValid (raw : Ticks) : (s.latchPts raw).lockValid = s.lockValid := rfl
@[simp] theorem State.latchPts_lockPid (raw : Ticks) : (s.latchPts raw).lockPid = s.lockPid := rfl
@[simp] theorem State.latchPts_lastPtsValid (raw : Ticks) : (s.latchPts raw).lastPtsValid = true := rfl
@[simp] theorem State.latchPts_lastPts (raw : Ticks) : (s.latchPts raw).lastPts = raw := rfl
@[simp] theorem State.latchPts_lastSectionValid (raw : Ticks) : (s.latchPts raw).lastSectionValid = s.lastSectionValid := rfl
@[simp] theorem State.latchPts_lastSection (raw : Ticks) : (s.latchPts raw).lastSection = s.lastSection := rfl
@[simp] theorem State.latchPts_doneReason (raw : Ticks) : (s.latchPts raw).doneReason = s.doneReason := rfl
@[simp] theorem State.latchPts_evq (raw : Ticks) : (s.latchPts raw).evq = s.evq := rfl
@[simp] theorem State.latchPts_cnt (raw : Ticks) : (s.latchPts raw).cnt = s.cnt := rfl
@[simp] theorem State.latchPts_params (raw : Ticks) : (s.latchPts raw).params = s.params := rfl
@[simp] theorem State.latchPts_hostIn (raw : Ticks) : (s.latchPts raw).hostIn = s.hostIn := rfl
@[simp] theorem State.latchPts_srcBytes (raw : Ticks) : (s.latchPts raw).srcBytes = s.srcBytes := rfl
@[simp] theorem State.latchPts_srcEos (raw : Ticks) : (s.latchPts raw).srcEos = s.srcEos := rfl
@[simp] theorem State.latchPts_decReq (raw : Ticks) : (s.latchPts raw).decReq = s.decReq := rfl
@[simp] theorem State.latchPts_decAnswers (raw : Ticks) : (s.latchPts raw).decAnswers = s.decAnswers := rfl
@[simp] theorem State.latchPts_sinkSeen (raw : Ticks) : (s.latchPts raw).sinkSeen = s.sinkSeen := rfl
@[simp] theorem State.latchPts_hostSeen (raw : Ticks) : (s.latchPts raw).hostSeen = s.hostSeen := rfl
@[simp] theorem State.latchPts_hostRefused (raw : Ticks) : (s.latchPts raw).hostRefused = s.hostRefused := rfl
@[simp] theorem State.latchPts_turns (raw : Ticks) : (s.latchPts raw).turns = s.turns := rfl

/-! ### latchSection -/

@[simp] theorem State.latchSection_cfgShowNull (x : Section) : (s.latchSection x).cfgShowNull = s.cfgShowNull := rfl
@[simp] theorem State.latchSection_cfgPidFilterEn (x : Section) : (s.latchSection x).cfgPidFilterEn = s.cfgPidFilterEn := rfl
@[simp] theorem State.latchSection_cfgPidFilter (x : Section) : (s.latchSection x).cfgPidFilter = s.cfgPidFilter := rfl
@[simp] theorem State.latchSection_cfgResync (x : Section) : (s.latchSection x).cfgResync = s.cfgResync := rfl
@[simp] theorem State.latchSection_fsm (x : Section) : (s.latchSection x).fsm = s.fsm := rfl
@[simp] theorem State.latchSection_pktCnt (x : Section) : (s.latchSection x).pktCnt = s.pktCnt := rfl
@[simp] theorem State.latchSection_buf (x : Section) : (s.latchSection x).buf = s.buf := rfl
@[simp] theorem State.latchSection_hdr (x : Section) : (s.latchSection x).hdr = s.hdr := rfl
@[simp] theorem State.latchSection_lockValid (x : Section) : (s.latchSection x).lockValid = s.lockValid := rfl
@[simp] theorem State.latchSection_lockPid (x : Section) : (s.latchSection x).lockPid = s.lockPid := rfl
@[simp] theorem State.latchSection_lastPtsValid (x : Section) : (s.latchSection x).lastPtsValid = s.lastPtsValid := rfl
@[simp] theorem State.latchSection_lastPts (x : Section) : (s.latchSection x).lastPts = s.lastPts := rfl
@[simp] theorem State.latchSection_lastSectionValid (x : Section) : (s.latchSection x).lastSectionValid = true := rfl
@[simp] theorem State.latchSection_lastSection (x : Section) : (s.latchSection x).lastSection = x := rfl
@[simp] theorem State.latchSection_doneReason (x : Section) : (s.latchSection x).doneReason = s.doneReason := rfl
@[simp] theorem State.latchSection_evq (x : Section) : (s.latchSection x).evq = s.evq := rfl
@[simp] theorem State.latchSection_cnt (x : Section) : (s.latchSection x).cnt = s.cnt := rfl
@[simp] theorem State.latchSection_params (x : Section) : (s.latchSection x).params = s.params := rfl
@[simp] theorem State.latchSection_hostIn (x : Section) : (s.latchSection x).hostIn = s.hostIn := rfl
@[simp] theorem State.latchSection_srcBytes (x : Section) : (s.latchSection x).srcBytes = s.srcBytes := rfl
@[simp] theorem State.latchSection_srcEos (x : Section) : (s.latchSection x).srcEos = s.srcEos := rfl
@[simp] theorem State.latchSection_decReq (x : Section) : (s.latchSection x).decReq = s.decReq := rfl
@[simp] theorem State.latchSection_decAnswers (x : Section) : (s.latchSection x).decAnswers = s.decAnswers := rfl
@[simp] theorem State.latchSection_sinkSeen (x : Section) : (s.latchSection x).sinkSeen = s.sinkSeen := rfl
@[simp] theorem State.latchSection_hostSeen (x : Section) : (s.latchSection x).hostSeen = s.hostSeen := rfl
@[simp] theorem State.latchSection_hostRefused (x : Section) : (s.latchSection x).hostRefused = s.hostRefused := rfl
@[simp] theorem State.latchSection_turns (x : Section) : (s.latchSection x).turns = s.turns := rfl

/-! ### emit -/

@[simp] theorem State.emit_cfgShowNull (e : Event) : (s.emit e).cfgShowNull = s.cfgShowNull := rfl
@[simp] theorem State.emit_cfgPidFilterEn (e : Event) : (s.emit e).cfgPidFilterEn = s.cfgPidFilterEn := rfl
@[simp] theorem State.emit_cfgPidFilter (e : Event) : (s.emit e).cfgPidFilter = s.cfgPidFilter := rfl
@[simp] theorem State.emit_cfgResync (e : Event) : (s.emit e).cfgResync = s.cfgResync := rfl
@[simp] theorem State.emit_fsm (e : Event) : (s.emit e).fsm = s.fsm := rfl
@[simp] theorem State.emit_pktCnt (e : Event) : (s.emit e).pktCnt = s.pktCnt := rfl
@[simp] theorem State.emit_buf (e : Event) : (s.emit e).buf = s.buf := rfl
@[simp] theorem State.emit_hdr (e : Event) : (s.emit e).hdr = s.hdr := rfl
@[simp] theorem State.emit_lockValid (e : Event) : (s.emit e).lockValid = s.lockValid := rfl
@[simp] theorem State.emit_lockPid (e : Event) : (s.emit e).lockPid = s.lockPid := rfl
@[simp] theorem State.emit_lastPtsValid (e : Event) : (s.emit e).lastPtsValid = s.lastPtsValid := rfl
@[simp] theorem State.emit_lastPts (e : Event) : (s.emit e).lastPts = s.lastPts := rfl
@[simp] theorem State.emit_lastSectionValid (e : Event) : (s.emit e).lastSectionValid = s.lastSectionValid := rfl
@[simp] theorem State.emit_lastSection (e : Event) : (s.emit e).lastSection = s.lastSection := rfl
@[simp] theorem State.emit_doneReason (e : Event) : (s.emit e).doneReason = s.doneReason := rfl
@[simp] theorem State.emit_evq (e : Event) : (s.emit e).evq = s.evq ++ [e] := rfl
@[simp] theorem State.emit_cnt (e : Event) : (s.emit e).cnt = s.cnt := rfl
@[simp] theorem State.emit_params (e : Event) : (s.emit e).params = s.params := rfl
@[simp] theorem State.emit_hostIn (e : Event) : (s.emit e).hostIn = s.hostIn := rfl
@[simp] theorem State.emit_srcBytes (e : Event) : (s.emit e).srcBytes = s.srcBytes := rfl
@[simp] theorem State.emit_srcEos (e : Event) : (s.emit e).srcEos = s.srcEos := rfl
@[simp] theorem State.emit_decReq (e : Event) : (s.emit e).decReq = s.decReq := rfl
@[simp] theorem State.emit_decAnswers (e : Event) : (s.emit e).decAnswers = s.decAnswers := rfl
@[simp] theorem State.emit_sinkSeen (e : Event) : (s.emit e).sinkSeen = s.sinkSeen := rfl
@[simp] theorem State.emit_hostSeen (e : Event) : (s.emit e).hostSeen = s.hostSeen := rfl
@[simp] theorem State.emit_hostRefused (e : Event) : (s.emit e).hostRefused = s.hostRefused := rfl
@[simp] theorem State.emit_turns (e : Event) : (s.emit e).turns = s.turns := rfl

/-! ### lockIfNone -/

@[simp] theorem State.lockIfNone_cfgShowNull : s.lockIfNone.cfgShowNull = s.cfgShowNull := rfl
@[simp] theorem State.lockIfNone_cfgPidFilterEn : s.lockIfNone.cfgPidFilterEn = s.cfgPidFilterEn := rfl
@[simp] theorem State.lockIfNone_cfgPidFilter : s.lockIfNone.cfgPidFilter = s.cfgPidFilter := rfl
@[simp] theorem State.lockIfNone_cfgResync : s.lockIfNone.cfgResync = s.cfgResync := rfl
@[simp] theorem State.lockIfNone_fsm : s.lockIfNone.fsm = s.fsm := rfl
@[simp] theorem State.lockIfNone_pktCnt : s.lockIfNone.pktCnt = s.pktCnt := rfl
@[simp] theorem State.lockIfNone_buf : s.lockIfNone.buf = s.buf := rfl
@[simp] theorem State.lockIfNone_hdr : s.lockIfNone.hdr = s.hdr := rfl
@[simp] theorem State.lockIfNone_lockValid : s.lockIfNone.lockValid = true := rfl
@[simp] theorem State.lockIfNone_lockPid : s.lockIfNone.lockPid = if s.lockValid then s.lockPid else s.hdr.pid := rfl
@[simp] theorem State.lockIfNone_lastPtsValid : s.lockIfNone.lastPtsValid = s.lastPtsValid := rfl
@[simp] theorem State.lockIfNone_lastPts : s.lockIfNone.lastPts = s.lastPts := rfl
@[simp] theorem State.lockIfNone_lastSectionValid : s.lockIfNone.lastSectionValid = s.lastSectionValid := rfl
@[simp] theorem State.lockIfNone_lastSection : s.lockIfNone.lastSection = s.lastSection := rfl
@[simp] theorem State.lockIfNone_doneReason : s.lockIfNone.doneReason = s.doneReason := rfl
@[simp] theorem State.lockIfNone_evq : s.lockIfNone.evq = s.evq := rfl
@[simp] theorem State.lockIfNone_cnt : s.lockIfNone.cnt = s.cnt := rfl
@[simp] theorem State.lockIfNone_params : s.lockIfNone.params = s.params := rfl
@[simp] theorem State.lockIfNone_hostIn : s.lockIfNone.hostIn = s.hostIn := rfl
@[simp] theorem State.lockIfNone_srcBytes : s.lockIfNone.srcBytes = s.srcBytes := rfl
@[simp] theorem State.lockIfNone_srcEos : s.lockIfNone.srcEos = s.srcEos := rfl
@[simp] theorem State.lockIfNone_decReq : s.lockIfNone.decReq = s.decReq := rfl
@[simp] theorem State.lockIfNone_decAnswers : s.lockIfNone.decAnswers = s.decAnswers := rfl
@[simp] theorem State.lockIfNone_sinkSeen : s.lockIfNone.sinkSeen = s.sinkSeen := rfl
@[simp] theorem State.lockIfNone_hostSeen : s.lockIfNone.hostSeen = s.hostSeen := rfl
@[simp] theorem State.lockIfNone_hostRefused : s.lockIfNone.hostRefused = s.hostRefused := rfl
@[simp] theorem State.lockIfNone_turns : s.lockIfNone.turns = s.turns := rfl

/-! ### decRequest -/

@[simp] theorem State.decRequest_cfgShowNull (span : List Byte) : (s.decRequest span).cfgShowNull = s.cfgShowNull := rfl
@[simp] theorem State.decRequest_cfgPidFilterEn (span : List Byte) : (s.decRequest span).cfgPidFilterEn = s.cfgPidFilterEn := rfl
@[simp] theorem State.decRequest_cfgPidFilter (span : List Byte) : (s.decRequest span).cfgPidFilter = s.cfgPidFilter := rfl
@[simp] theorem State.decRequest_cfgResync (span : List Byte) : (s.decRequest span).cfgResync = s.cfgResync := rfl
@[simp] theorem State.decRequest_fsm (span : List Byte) : (s.decRequest span).fsm = s.fsm := rfl
@[simp] theorem State.decRequest_pktCnt (span : List Byte) : (s.decRequest span).pktCnt = s.pktCnt := rfl
@[simp] theorem State.decRequest_buf (span : List Byte) : (s.decRequest span).buf = s.buf := rfl
@[simp] theorem State.decRequest_hdr (span : List Byte) : (s.decRequest span).hdr = s.hdr := rfl
@[simp] theorem State.decRequest_lockValid (span : List Byte) : (s.decRequest span).lockValid = s.lockValid := rfl
@[simp] theorem State.decRequest_lockPid (span : List Byte) : (s.decRequest span).lockPid = s.lockPid := rfl
@[simp] theorem State.decRequest_lastPtsValid (span : List Byte) : (s.decRequest span).lastPtsValid = s.lastPtsValid := rfl
@[simp] theorem State.decRequest_lastPts (span : List Byte) : (s.decRequest span).lastPts = s.lastPts := rfl
@[simp] theorem State.decRequest_lastSectionValid (span : List Byte) : (s.decRequest span).lastSectionValid = s.lastSectionValid := rfl
@[simp] theorem State.decRequest_lastSection (span : List Byte) : (s.decRequest span).lastSection = s.lastSection := rfl
@[simp] theorem State.decRequest_doneReason (span : List Byte) : (s.decRequest span).doneReason = s.doneReason := rfl
@[simp] theorem State.decRequest_evq (span : List Byte) : (s.decRequest span).evq = s.evq := rfl
@[simp] theorem State.decRequest_cnt (span : List Byte) : (s.decRequest span).cnt = s.cnt := rfl
@[simp] theorem State.decRequest_params (span : List Byte) : (s.decRequest span).params = s.params := rfl
@[simp] theorem State.decRequest_hostIn (span : List Byte) : (s.decRequest span).hostIn = s.hostIn := rfl
@[simp] theorem State.decRequest_srcBytes (span : List Byte) : (s.decRequest span).srcBytes = s.srcBytes := rfl
@[simp] theorem State.decRequest_srcEos (span : List Byte) : (s.decRequest span).srcEos = s.srcEos := rfl
@[simp] theorem State.decRequest_decReq (span : List Byte) : (s.decRequest span).decReq = some span := rfl
@[simp] theorem State.decRequest_decAnswers (span : List Byte) : (s.decRequest span).decAnswers = s.decAnswers := rfl
@[simp] theorem State.decRequest_sinkSeen (span : List Byte) : (s.decRequest span).sinkSeen = s.sinkSeen := rfl
@[simp] theorem State.decRequest_hostSeen (span : List Byte) : (s.decRequest span).hostSeen = s.hostSeen := rfl
@[simp] theorem State.decRequest_hostRefused (span : List Byte) : (s.decRequest span).hostRefused = s.hostRefused := rfl
@[simp] theorem State.decRequest_turns (span : List Byte) : (s.decRequest span).turns = s.turns := rfl

/-! ### decResponse -/

@[simp] theorem State.decResponse_cfgShowNull : s.decResponse.cfgShowNull = s.cfgShowNull := rfl
@[simp] theorem State.decResponse_cfgPidFilterEn : s.decResponse.cfgPidFilterEn = s.cfgPidFilterEn := rfl
@[simp] theorem State.decResponse_cfgPidFilter : s.decResponse.cfgPidFilter = s.cfgPidFilter := rfl
@[simp] theorem State.decResponse_cfgResync : s.decResponse.cfgResync = s.cfgResync := rfl
@[simp] theorem State.decResponse_fsm : s.decResponse.fsm = s.fsm := rfl
@[simp] theorem State.decResponse_pktCnt : s.decResponse.pktCnt = s.pktCnt := rfl
@[simp] theorem State.decResponse_buf : s.decResponse.buf = s.buf := rfl
@[simp] theorem State.decResponse_hdr : s.decResponse.hdr = s.hdr := rfl
@[simp] theorem State.decResponse_lockValid : s.decResponse.lockValid = s.lockValid := rfl
@[simp] theorem State.decResponse_lockPid : s.decResponse.lockPid = s.lockPid := rfl
@[simp] theorem State.decResponse_lastPtsValid : s.decResponse.lastPtsValid = s.lastPtsValid := rfl
@[simp] theorem State.decResponse_lastPts : s.decResponse.lastPts = s.lastPts := rfl
@[simp] theorem State.decResponse_lastSectionValid : s.decResponse.lastSectionValid = s.lastSectionValid := rfl
@[simp] theorem State.decResponse_lastSection : s.decResponse.lastSection = s.lastSection := rfl
@[simp] theorem State.decResponse_doneReason : s.decResponse.doneReason = s.doneReason := rfl
@[simp] theorem State.decResponse_evq : s.decResponse.evq = s.evq := rfl
@[simp] theorem State.decResponse_cnt : s.decResponse.cnt = s.cnt := rfl
@[simp] theorem State.decResponse_params : s.decResponse.params = s.params := rfl
@[simp] theorem State.decResponse_hostIn : s.decResponse.hostIn = s.hostIn := rfl
@[simp] theorem State.decResponse_srcBytes : s.decResponse.srcBytes = s.srcBytes := rfl
@[simp] theorem State.decResponse_srcEos : s.decResponse.srcEos = s.srcEos := rfl
@[simp] theorem State.decResponse_decReq : s.decResponse.decReq = none := rfl
@[simp] theorem State.decResponse_decAnswers : s.decResponse.decAnswers = s.decAnswers.tail := rfl
@[simp] theorem State.decResponse_sinkSeen : s.decResponse.sinkSeen = s.sinkSeen := rfl
@[simp] theorem State.decResponse_hostSeen : s.decResponse.hostSeen = s.hostSeen := rfl
@[simp] theorem State.decResponse_hostRefused : s.decResponse.hostRefused = s.hostRefused := rfl
@[simp] theorem State.decResponse_turns : s.decResponse.turns = s.turns := rfl

/-! ### refuseStart -/

@[simp] theorem State.refuseStart_cfgShowNull : s.refuseStart.cfgShowNull = s.cfgShowNull := rfl
@[simp] theorem State.refuseStart_cfgPidFilterEn : s.refuseStart.cfgPidFilterEn = s.cfgPidFilterEn := rfl
@[simp] theorem State.refuseStart_cfgPidFilter : s.refuseStart.cfgPidFilter = s.cfgPidFilter := rfl
@[simp] theorem State.refuseStart_cfgResync : s.refuseStart.cfgResync = s.cfgResync := rfl
@[simp] theorem State.refuseStart_fsm : s.refuseStart.fsm = s.fsm := rfl
@[simp] theorem State.refuseStart_pktCnt : s.refuseStart.pktCnt = s.pktCnt := rfl
@[simp] theorem State.refuseStart_buf : s.refuseStart.buf = s.buf := rfl
@[simp] theorem State.refuseStart_hdr : s.refuseStart.hdr = s.hdr := rfl
@[simp] theorem State.refuseStart_lockValid : s.refuseStart.lockValid = s.lockValid := rfl
@[simp] theorem State.refuseStart_lockPid : s.refuseStart.lockPid = s.lockPid := rfl
@[simp] theorem State.refuseStart_lastPtsValid : s.refuseStart.lastPtsValid = s.lastPtsValid := rfl
@[simp] theorem State.refuseStart_lastPts : s.refuseStart.lastPts = s.lastPts := rfl
@[simp] theorem State.refuseStart_lastSectionValid : s.refuseStart.lastSectionValid = s.lastSectionValid := rfl
@[simp] theorem State.refuseStart_lastSection : s.refuseStart.lastSection = s.lastSection := rfl
@[simp] theorem State.refuseStart_doneReason : s.refuseStart.doneReason = s.doneReason := rfl
@[simp] theorem State.refuseStart_evq : s.refuseStart.evq = s.evq := rfl
@[simp] theorem State.refuseStart_cnt : s.refuseStart.cnt = s.cnt := rfl
@[simp] theorem State.refuseStart_params : s.refuseStart.params = s.params := rfl
@[simp] theorem State.refuseStart_hostIn : s.refuseStart.hostIn = s.hostIn := rfl
@[simp] theorem State.refuseStart_srcBytes : s.refuseStart.srcBytes = s.srcBytes := rfl
@[simp] theorem State.refuseStart_srcEos : s.refuseStart.srcEos = s.srcEos := rfl
@[simp] theorem State.refuseStart_decReq : s.refuseStart.decReq = s.decReq := rfl
@[simp] theorem State.refuseStart_decAnswers : s.refuseStart.decAnswers = s.decAnswers := rfl
@[simp] theorem State.refuseStart_sinkSeen : s.refuseStart.sinkSeen = s.sinkSeen := rfl
@[simp] theorem State.refuseStart_hostSeen : s.refuseStart.hostSeen = s.hostSeen := rfl
@[simp] theorem State.refuseStart_hostRefused : s.refuseStart.hostRefused = true := rfl
@[simp] theorem State.refuseStart_turns : s.refuseStart.turns = s.turns := rfl

/-! ### hostConfigures -/

@[simp] theorem State.hostConfigures_cfgShowNull (c : StreamConfig) : (s.hostConfigures c).cfgShowNull = s.cfgShowNull := rfl
@[simp] theorem State.hostConfigures_cfgPidFilterEn (c : StreamConfig) : (s.hostConfigures c).cfgPidFilterEn = s.cfgPidFilterEn := rfl
@[simp] theorem State.hostConfigures_cfgPidFilter (c : StreamConfig) : (s.hostConfigures c).cfgPidFilter = s.cfgPidFilter := rfl
@[simp] theorem State.hostConfigures_cfgResync (c : StreamConfig) : (s.hostConfigures c).cfgResync = s.cfgResync := rfl
@[simp] theorem State.hostConfigures_fsm (c : StreamConfig) : (s.hostConfigures c).fsm = s.fsm := rfl
@[simp] theorem State.hostConfigures_pktCnt (c : StreamConfig) : (s.hostConfigures c).pktCnt = s.pktCnt := rfl
@[simp] theorem State.hostConfigures_buf (c : StreamConfig) : (s.hostConfigures c).buf = s.buf := rfl
@[simp] theorem State.hostConfigures_hdr (c : StreamConfig) : (s.hostConfigures c).hdr = s.hdr := rfl
@[simp] theorem State.hostConfigures_lockValid (c : StreamConfig) : (s.hostConfigures c).lockValid = s.lockValid := rfl
@[simp] theorem State.hostConfigures_lockPid (c : StreamConfig) : (s.hostConfigures c).lockPid = s.lockPid := rfl
@[simp] theorem State.hostConfigures_lastPtsValid (c : StreamConfig) : (s.hostConfigures c).lastPtsValid = s.lastPtsValid := rfl
@[simp] theorem State.hostConfigures_lastPts (c : StreamConfig) : (s.hostConfigures c).lastPts = s.lastPts := rfl
@[simp] theorem State.hostConfigures_lastSectionValid (c : StreamConfig) : (s.hostConfigures c).lastSectionValid = s.lastSectionValid := rfl
@[simp] theorem State.hostConfigures_lastSection (c : StreamConfig) : (s.hostConfigures c).lastSection = s.lastSection := rfl
@[simp] theorem State.hostConfigures_doneReason (c : StreamConfig) : (s.hostConfigures c).doneReason = s.doneReason := rfl
@[simp] theorem State.hostConfigures_evq (c : StreamConfig) : (s.hostConfigures c).evq = s.evq := rfl
@[simp] theorem State.hostConfigures_cnt (c : StreamConfig) : (s.hostConfigures c).cnt = s.cnt := rfl
@[simp] theorem State.hostConfigures_params (c : StreamConfig) : (s.hostConfigures c).params = s.params := rfl
@[simp] theorem State.hostConfigures_hostIn (c : StreamConfig) : (s.hostConfigures c).hostIn = c := rfl
@[simp] theorem State.hostConfigures_srcBytes (c : StreamConfig) : (s.hostConfigures c).srcBytes = s.srcBytes := rfl
@[simp] theorem State.hostConfigures_srcEos (c : StreamConfig) : (s.hostConfigures c).srcEos = s.srcEos := rfl
@[simp] theorem State.hostConfigures_decReq (c : StreamConfig) : (s.hostConfigures c).decReq = s.decReq := rfl
@[simp] theorem State.hostConfigures_decAnswers (c : StreamConfig) : (s.hostConfigures c).decAnswers = s.decAnswers := rfl
@[simp] theorem State.hostConfigures_sinkSeen (c : StreamConfig) : (s.hostConfigures c).sinkSeen = s.sinkSeen := rfl
@[simp] theorem State.hostConfigures_hostSeen (c : StreamConfig) : (s.hostConfigures c).hostSeen = s.hostSeen := rfl
@[simp] theorem State.hostConfigures_hostRefused (c : StreamConfig) : (s.hostConfigures c).hostRefused = s.hostRefused := rfl
@[simp] theorem State.hostConfigures_turns (c : StreamConfig) : (s.hostConfigures c).turns = s.turns := rfl

/-! ### openStream -/

@[simp] theorem State.openStream_cfgShowNull (c : StreamConfig) : (s.openStream c).cfgShowNull = c.showNull := rfl
@[simp] theorem State.openStream_cfgPidFilterEn (c : StreamConfig) : (s.openStream c).cfgPidFilterEn = c.pidFilter.isSome := rfl
@[simp] theorem State.openStream_cfgPidFilter (c : StreamConfig) : (s.openStream c).cfgPidFilter = c.pidFilter.getD s.cfgPidFilter := rfl
@[simp] theorem State.openStream_cfgResync (c : StreamConfig) : (s.openStream c).cfgResync = c.resync := rfl
@[simp] theorem State.openStream_fsm (c : StreamConfig) : (s.openStream c).fsm = .seekSync := rfl
@[simp] theorem State.openStream_pktCnt (c : StreamConfig) : (s.openStream c).pktCnt = 0 := rfl
@[simp] theorem State.openStream_buf (c : StreamConfig) : (s.openStream c).buf = s.buf := rfl
@[simp] theorem State.openStream_hdr (c : StreamConfig) : (s.openStream c).hdr = s.hdr := rfl
@[simp] theorem State.openStream_lockValid (c : StreamConfig) : (s.openStream c).lockValid = c.pidFilter.isSome := rfl
@[simp] theorem State.openStream_lockPid (c : StreamConfig) : (s.openStream c).lockPid = c.pidFilter.getD s.lockPid := rfl
@[simp] theorem State.openStream_lastPtsValid (c : StreamConfig) : (s.openStream c).lastPtsValid = false := rfl
@[simp] theorem State.openStream_lastPts (c : StreamConfig) : (s.openStream c).lastPts = s.lastPts := rfl
@[simp] theorem State.openStream_lastSectionValid (c : StreamConfig) : (s.openStream c).lastSectionValid = false := rfl
@[simp] theorem State.openStream_lastSection (c : StreamConfig) : (s.openStream c).lastSection = s.lastSection := rfl
@[simp] theorem State.openStream_doneReason (c : StreamConfig) : (s.openStream c).doneReason = .notEnded := rfl
@[simp] theorem State.openStream_evq (c : StreamConfig) : (s.openStream c).evq = [] := rfl
@[simp] theorem State.openStream_cnt (c : StreamConfig) : (s.openStream c).cnt = {} := rfl
@[simp] theorem State.openStream_params (c : StreamConfig) : (s.openStream c).params = s.params := rfl
@[simp] theorem State.openStream_hostIn (c : StreamConfig) : (s.openStream c).hostIn = s.hostIn := rfl
@[simp] theorem State.openStream_srcBytes (c : StreamConfig) : (s.openStream c).srcBytes = s.srcBytes := rfl
@[simp] theorem State.openStream_srcEos (c : StreamConfig) : (s.openStream c).srcEos = s.srcEos := rfl
@[simp] theorem State.openStream_decReq (c : StreamConfig) : (s.openStream c).decReq = s.decReq := rfl
@[simp] theorem State.openStream_decAnswers (c : StreamConfig) : (s.openStream c).decAnswers = s.decAnswers := rfl
@[simp] theorem State.openStream_sinkSeen (c : StreamConfig) : (s.openStream c).sinkSeen = [] := rfl
@[simp] theorem State.openStream_hostSeen (c : StreamConfig) : (s.openStream c).hostSeen = s.hostSeen := rfl
@[simp] theorem State.openStream_hostRefused (c : StreamConfig) : (s.openStream c).hostRefused = s.hostRefused := rfl
@[simp] theorem State.openStream_turns (c : StreamConfig) : (s.openStream c).turns = s.turns := rfl

end Sys2Proof.Machine
end

