-- ==== Sys2Proof/Laws/Ops.lean ====
section
/-! SUPPORT. For each shared operation, all that it can do: cited where a proof would else unfold it. -/

namespace Sys2Proof.Machine

/-- An operation takes effect where it is selected, and elsewhere holds. -/
theorem State.perform_cases (s : State) (i : Instr) (k : State → Result) :
    (s.selected = some i ∧ s.perform i k = k s) ∨ (s.selected ≠ some i ∧ s.perform i k = .next s) := by
  by_cases h : s.selected = some i
  · exact .inl ⟨h, if_pos h⟩
  · exact .inr ⟨h, if_neg h⟩

theorem State.perform_selected {s : State} {i : Instr} (h : s.selected = some i) (k : State → Result) :
    s.perform i k = k s := if_pos h

theorem State.perform_unselected {s : State} {i : Instr} (h : s.selected ≠ some i) (k : State → Result) :
    s.perform i k = .next s := if_neg h

/-- A buffer write goes on with the byte written, or faults outside the buffer. -/
theorem State.storeByte_cases (s : State) (a : Nat) (b : Byte) (k : State → Result) :
    (a < Config.bufLen ∧ s.storeByte a b k = k (s.withByte a b)) ∨
      (Config.bufLen ≤ a ∧ s.storeByte a b k = .fault (.noSuchOffset a)) := by
  by_cases h : a < Config.bufLen
  · exact .inl ⟨h, if_pos h⟩
  · exact .inr ⟨Nat.le_of_not_lt h, if_neg h⟩

/-- An emitting step goes on where there is room, and else holds. -/
theorem State.whenRoom_cases (s : State) (k : State → Result) :
    (s.hasRoom = true ∧ s.whenRoom k = k s) ∨ (s.hasRoom = false ∧ s.whenRoom k = .next s) := by
  cases h : s.hasRoom
  · exact .inr ⟨rfl, by simp [State.whenRoom, h]⟩
  · exact .inl ⟨rfl, by simp [State.whenRoom, h]⟩

/-- `PKT_CNT` counts the byte; the 187th completes the packet. -/
theorem afterByte_cases (s : State) :
    (s.pktCnt + 1 = 187 ∧ afterByte s = ((s.setPktCnt (s.pktCnt + 1)).count .pkt).goto .processHeader) ∨
      (s.pktCnt + 1 ≠ 187 ∧ afterByte s = (s.setPktCnt (s.pktCnt + 1)).goto .readPacket) := by
  by_cases h : s.pktCnt + 1 = 187
  · exact .inl ⟨h, if_pos h⟩
  · exact .inr ⟨h, if_neg h⟩

/-- The source's move writes nothing but its port. -/
theorem State.sourceOffers_eq (s : State) (t : Token) :
    s.sourceOffers t = { s with srcBytes := (s.sourceOffers t).srcBytes, srcEos := (s.sourceOffers t).srcEos } := by
  cases t with
  | byte b => cases h : s.srcEos <;> (simp [State.sourceOffers, h]; try (cases s; simp_all))
  | eos => rfl

/-- The decoder's move writes nothing but its answers. -/
theorem State.decoderAnswers_eq (s : State) (r : Response) :
    s.decoderAnswers r = { s with decAnswers := (s.decoderAnswers r).decAnswers } := by
  unfold State.decoderAnswers
  split <;> rfl

/-- The sink's move takes the head of `EVQ`, and writes nothing else. -/
theorem State.sinkRemoves_cases (s : State) :
    (s.evq = [] ∧ s.sinkRemoves = s) ∨
      ∃ e rest, s.evq = e :: rest ∧ s.sinkRemoves = { s with evq := rest, sinkSeen := s.sinkSeen ++ [e] } := by
  unfold State.sinkRemoves
  split
  · next h => exact .inl ⟨h, rfl⟩
  · next e rest h => exact .inr ⟨e, rest, h, rfl⟩

/-- Connecting a source writes nothing but the source port, and only in IDLE and DONE. -/
theorem State.hostConnects_cases (s : State) :
    (s.startEnabled = true ∧ s.hostConnects = { s with srcBytes := [], srcEos := false }) ∨
      (s.startEnabled = false ∧ s.hostConnects = s) := by
  cases h : s.startEnabled
  · exact .inr ⟨rfl, by simp [State.hostConnects, h]⟩
  · exact .inl ⟨rfl, by simp [State.hostConnects, h]⟩

/-- A host read shows a readable register and changes no register, or faults. -/
theorem State.hostReads_cases (s : State) (r : StatusReg) :
    (s.readable r = true ∧ s.hostReads r = .next { s with hostSeen := s.hostSeen ++ [(r, s.statusValue r)] }) ∨
      (s.readable r = false ∧ s.hostReads r = .fault (.unspecifiedRead r)) := by
  cases h : s.readable r
  · exact .inr ⟨rfl, by simp [State.hostReads, h]⟩
  · exact .inl ⟨rfl, by simp [State.hostReads, h]⟩

/-- START opens a stream in IDLE and DONE, and elsewhere changes nothing of the block. -/
theorem execStart_cases (n : Bool) (p : Option Pid) (r : Bool) (s : State) :
    (s.startEnabled = true ∧ execStart n p r s = .next (s.openStream ⟨n, p, r⟩)) ∨
      (s.startEnabled = false ∧ execStart n p r s = .next s.refuseStart) := by
  cases h : s.startEnabled
  · exact .inr ⟨rfl, by simp [execStart, h]⟩
  · exact .inl ⟨rfl, by simp [execStart, h]⟩

/-- With no turn scheduled, or the block's, a step is the block's. -/
theorem step_block_nil {s : State} (h : s.turns = []) : step s = blockStep s := by simp [step, h]

theorem step_block_cons {s : State} {rest : List Turn} (h : s.turns = .block :: rest) :
    step s = blockStep { s with turns := rest } := by simp [step, h, agentStep]

theorem blockStep_selected {s : State} {i : Instr} (h : s.selected = some i) : blockStep s = exec i s := by
  simp [blockStep, h]

theorem blockStep_none {s : State} (h : s.selected = none) : blockStep s = .next s := by simp [blockStep, h]

end Sys2Proof.Machine
end

