-- ==== Sys2Proof/Laws/Select.lean ====
section
/-! SUPPORT. Which operation each state selects: `State.selected`, state by state, with the words of the formats
already read back into their fields. -/

namespace Sys2Proof.Machine

/-- The WAIT_DECODER rows of R92. -/
def decodeResponse : Response → Instr
  | .ok x => .decOk x
  | .fail => .decFail

variable {s : State}

theorem State.selected_idle (h : s.fsm = .idle) : s.selected = none := by
  simp [State.selected, State.inputWord, h]

theorem State.selected_done (h : s.fsm = .done) : s.selected = none := by
  simp [State.selected, State.inputWord, h]

theorem State.selected_seekSync (h : s.fsm = .seekSync) :
    s.selected = s.token.map (decodeSeekSync s.context) := by
  cases ht : s.token <;> simp [State.selected, State.inputWord, h, ht, decode, State.context, Except.toOption]

theorem State.selected_readPacket (h : s.fsm = .readPacket) : s.selected = s.token.map decodeReadPacket := by
  cases ht : s.token <;> simp [State.selected, State.inputWord, h, ht, decode, State.context, Except.toOption]

theorem State.selected_processHeader (h : s.fsm = .processHeader) :
    s.selected = some (.hdrDecode (Header.ofWord s.buf.headerWord)) := by
  simp [State.selected, State.inputWord, h, decode, State.context, Except.toOption]

theorem State.selected_processPes (h : s.fsm = .processPes) :
    s.selected = some (decodePes s.context (PesWindow.ofWord s.buf.pesWord)) := by
  simp [State.selected, State.inputWord, h, decode, State.context, Except.toOption]

theorem State.selected_processCandidate (h : s.fsm = .processCandidate) :
    s.selected = some (decodeCandidate s.context s.candWindow) := by
  simp [State.selected, State.inputWord, h, decode, State.context, Except.toOption]

theorem State.selected_waitDecoder (h : s.fsm = .waitDecoder) : s.selected = s.response.map decodeResponse := by
  cases hr : s.response with
  | none => simp [State.selected, State.inputWord, h, hr]
  | some r =>
      cases r <;>
        simp [State.selected, State.inputWord, h, hr, decode, State.context, Except.toOption, Response.toWord,
          decodeResponse]

end Sys2Proof.Machine
end

