-- ==== Sys2Proof/Laws/Exec.lean ====
section
/-! SUPPORT. What every operation and every step can do, said once: later proofs take `exec` and `step` apart by these
and not by unfolding the meanings. -/

namespace Sys2Proof.Machine

/-- What an operation other than START writes where it is selected and does not hold. -/
inductive Effect (s : State) : Instr → State → Prop where
  | syncEos : Effect s .syncEos (s.srcRead.terminate .endOfData)
  | syncAccept (b : Byte) : Effect s (.syncAccept b) ((s.srcRead.setPktCnt 0).goto .readPacket)
  | syncStop (b : Byte) : Effect s (.syncStop b) (s.srcRead.terminate .syncLoss)
  | syncSkip (b : Byte) : Effect s (.syncSkip b) ((s.srcRead.count .resync).goto .seekSync)
  | pktTrunc : Effect s .pktTrunc (s.srcRead.terminate .truncated)
  | lastByte (b : Byte) (hoff : s.pktCnt.toNat < Config.bufLen) (hlast : s.pktCnt + 1 = 187) :
      Effect s (.pktByte b)
        ((((s.srcRead.withByte s.pktCnt.toNat b).setPktCnt (s.pktCnt + 1)).count .pkt).goto .processHeader)
  | pktByte (b : Byte) (hoff : s.pktCnt.toNat < Config.bufLen) (hlast : s.pktCnt + 1 ≠ 187) :
      Effect s (.pktByte b) (((s.srcRead.withByte s.pktCnt.toNat b).setPktCnt (s.pktCnt + 1)).goto .readPacket)
  | hdrDecode (h : Header) : Effect s (.hdrDecode h) ((s.setHdr h).goto (afterHeader h.pusi))
  | pesNoPrefix (w : PesWindow) : Effect s (.pesNoPrefix w) (s.goto .processCandidate)
  | pesExcluded (w : PesWindow) : Effect s (.pesExcluded w) (s.goto .processCandidate)
  | pesNoOpthdr (w : PesWindow) : Effect s (.pesNoOpthdr w) (s.goto .processCandidate)
  | pesNoPts (w : PesWindow) : Effect s (.pesNoPts w) (s.goto .processCandidate)
  | pesBadTag (w : PesWindow) : Effect s (.pesBadTag w) (s.goto .processCandidate)
  | pesPts (w : PesWindow) (hroom : s.hasRoom = true) :
      Effect s (.pesPts w)
        ((((s.latchPts (rawTicks w)).count .pts).emit (.ts (rawTicks w))).goto .processCandidate)
  | candSkipMarker (c : CandWindow) : Effect s (.candSkipMarker c) (s.skip .skipMarker)
  | candSkipReserved (c : CandWindow) : Effect s (.candSkipReserved c) (s.skip .skipReserved)
  | candSkipPidlock (c : CandWindow) : Effect s (.candSkipPidlock c) (s.skip .skipPidlock)
  | candSkipNull (c : CandWindow) : Effect s (.candSkipNull c) (s.skip .skipNull)
  | candIssue (c : CandWindow) : Effect s (.candIssue c) ((s.decRequest s.buf.candSpan).goto .waitDecoder)
  | decOk (x : Section) (hroom : s.hasRoom = true) :
      Effect s (.decOk x)
        (((((s.decResponse.latchSection x).count .sections).emit (.sec x)).lockIfNone).goto .seekSync)
  | decFail : Effect s .decFail ((s.decResponse.count .decFail).goto .seekSync)

/-- All that `exec` can answer as a next state. -/
theorem exec_cases {i : Instr} {s t : State} (h : exec i s = .next t) :
    (∃ n p r, i = .start n p r ∧
      ((s.startEnabled = true ∧ t = s.openStream ⟨n, p, r⟩) ∨ (s.startEnabled = false ∧ t = s.refuseStart))) ∨
    t = s ∨ (s.selected = some i ∧ Effect s i t) := by
  cases i
  case start n p r =>
    left
    refine ⟨n, p, r, rfl, ?_⟩
    change execStart n p r s = _ at h
    rcases execStart_cases n p r s with ⟨h1, h2⟩ | ⟨h1, h2⟩ <;> rw [h2] at h <;> injection h with h
    · exact .inl ⟨h1, h.symm⟩
    · exact .inr ⟨h1, h.symm⟩
  all_goals
    right
    simp only [exec, execSyncEos, execSyncAccept, execSyncStop, execSyncSkip, execPktTrunc, execHdrDecode,
      execPesNoPrefix, execPesExcluded, execPesNoOpthdr, execPesNoPts, execPesBadTag, execPesPts, noTimestamp,
      execCandSkipMarker, execCandSkipReserved, execCandSkipPidlock, execCandSkipNull, execCandIssue, execDecOk,
      execDecFail, execPktByte, State.perform, State.whenRoom, State.storeByte] at h
    split at h
    on_goal 2 => (injection h with h; exact .inl h.symm)
    rename_i hs
  case pktByte b =>
    split at h
    · rename_i hc
      injection h with h
      subst h
      refine .inr ⟨hs, ?_⟩
      rcases afterByte_cases (s.srcRead.withByte s.pktCnt.toNat b) with ⟨e1, e2⟩ | ⟨e1, e2⟩ <;> rw [e2]
      · exact .lastByte b hc e1
      · exact .pktByte b hc e1
    · cases h
  case pesPts w =>
    split at h
    · rename_i hc; injection h with h; subst h; exact .inr ⟨hs, .pesPts w hc⟩
    · injection h with h; exact .inl h.symm
  case decOk x =>
    split at h
    · rename_i hc; injection h with h; subst h; exact .inr ⟨hs, .decOk x hc⟩
    · injection h with h; exact .inl h.symm
  all_goals
    injection h with h
    subst h
    exact .inr ⟨hs, by constructor⟩

/-- START is the host's move: the block's state selects it nowhere. -/
theorem State.selected_ne_start (s : State) (n : Bool) (p : Option Pid) (r : Bool) :
    s.selected ≠ some (.start n p r) := by
  intro h
  cases hf : s.fsm
  · rw [State.selected_idle hf] at h; cases h
  · rw [State.selected_seekSync hf] at h
    cases ht : s.token with
    | none => simp [ht] at h
    | some t => cases t <;> simp [ht, decodeSeekSync] at h; split_ifs at h
  · rw [State.selected_readPacket hf] at h
    cases ht : s.token with
    | none => simp [ht] at h
    | some t => cases t <;> simp [ht, decodeReadPacket] at h
  · rw [State.selected_processHeader hf] at h; simp at h
  · rw [State.selected_processPes hf] at h
    simp only [decodePes] at h; split_ifs at h <;> simp at h
  · rw [State.selected_processCandidate hf] at h
    simp only [decodeCandidate] at h; split_ifs at h <;> simp at h
  · rw [State.selected_waitDecoder hf] at h
    cases ht : s.response with
    | none => simp [ht] at h
    | some t => cases t <;> simp [ht, decodeResponse] at h
  · rw [State.selected_done hf] at h; cases h

/-- All that a block step can do. -/
theorem blockStep_cases {s t : State} (h : blockStep s = .next t) :
    t = s ∨ ∃ i, s.selected = some i ∧ Effect s i t := by
  unfold blockStep at h
  split at h
  · injection h with h; exact .inl h.symm
  · next i hi =>
      rcases exec_cases h with ⟨n, p, r, rfl, _⟩ | h | ⟨_, h⟩
      · exact absurd hi (s.selected_ne_start n p r)
      · exact .inl h
      · exact .inr ⟨i, hi, h⟩

/-- Taking the turn off a schedule that is already what is left changes nothing. -/
theorem State.with_turns_self {s : State} {r : List Turn} (h : s.turns = r) : { s with turns := r } = s := by
  subst h; rfl

/-- All that a step can answer as a next state. -/
theorem step_cases {s t : State} (h : step s = .next t) :
    (∃ rest, (s.turns = .block :: rest ∨ (s.turns = [] ∧ rest = [])) ∧ blockStep { s with turns := rest } = .next t) ∨
    (∃ k rest, s.turns = .source k :: rest ∧ t = State.sourceOffers { s with turns := rest } k) ∨
    (∃ r rest, s.turns = .decoder r :: rest ∧ t = State.decoderAnswers { s with turns := rest } r) ∨
    (∃ rest, s.turns = .sink :: rest ∧ t = State.sinkRemoves { s with turns := rest }) ∨
    (∃ c rest, s.turns = .host (.configure c) :: rest ∧ t = { s with turns := rest, hostIn := c }) ∨
    (∃ rest, s.turns = .host .connect :: rest ∧ t = State.hostConnects { s with turns := rest }) ∨
    (∃ rest, s.turns = .host .start :: rest ∧ s.startEnabled = true ∧
      t = State.openStream { s with turns := rest } s.hostIn) ∨
    (∃ rest, s.turns = .host .start :: rest ∧ s.startEnabled = false ∧
      t = { s with turns := rest, hostRefused := true }) ∨
    (∃ r rest, s.turns = .host (.read r) :: rest ∧ s.readable r = true ∧
      t = { s with turns := rest, hostSeen := s.hostSeen ++ [(r, s.statusValue r)] }) := by
  unfold step at h
  split at h
  · next ht => exact .inl ⟨[], .inr ⟨ht, rfl⟩, by rw [State.with_turns_self ht]; exact h⟩
  · rename_i turn rest ht
    cases turn with
    | block => exact .inl ⟨rest, .inl ht, h⟩
    | source k => injection h with h; exact .inr (.inl ⟨k, rest, ht, h.symm⟩)
    | decoder r => injection h with h; exact .inr (.inr (.inl ⟨r, rest, ht, h.symm⟩))
    | sink => injection h with h; exact .inr (.inr (.inr (.inl ⟨rest, ht, h.symm⟩)))
    | host a =>
      cases a with
      | configure c => injection h with h; exact .inr (.inr (.inr (.inr (.inl ⟨c, rest, ht, h.symm⟩))))
      | connect => injection h with h; exact .inr (.inr (.inr (.inr (.inr (.inl ⟨rest, ht, h.symm⟩)))))
      | start =>
        change execStart _ _ _ _ = _ at h
        rcases execStart_cases s.hostIn.showNull s.hostIn.pidFilter s.hostIn.resync { s with turns := rest } with
          ⟨h1, h2⟩ | ⟨h1, h2⟩ <;> rw [h2] at h <;> injection h with h
        · exact .inr (.inr (.inr (.inr (.inr (.inr (.inl ⟨rest, ht, h1, h.symm⟩))))))
        · exact .inr (.inr (.inr (.inr (.inr (.inr (.inr (.inl ⟨rest, ht, h1, h.symm⟩)))))))
      | read r =>
        have e : ({ s with turns := rest } : State).readable r = s.readable r := by cases r <;> rfl
        have e' : ({ s with turns := rest } : State).statusValue r = s.statusValue r := by cases r <;> rfl
        change State.hostReads _ _ = _ at h
        rcases State.hostReads_cases { s with turns := rest } r with ⟨h1, h2⟩ | ⟨h1, h2⟩ <;> rw [h2] at h
        · injection h with h
          rw [e'] at h
          rw [e] at h1
          exact .inr (.inr (.inr (.inr (.inr (.inr (.inr (.inr ⟨r, rest, ht, h1, h.symm⟩)))))))
        · cases h

/-! ### Runs -/

theorem run_succ (k : Nat) (s : State) :
    Host.Core.run core (k + 1) s =
      (match step s with
        | .next t => Host.Core.run core k t
        | .fault r => .fault r
        | .refused r => .refused r) := by
  simp only [Host.Core.run]
  rw [show core.step s = step s from rfl]
  cases step s <;> rfl

theorem run_one {s t : State} (h : step s = .next t) : Host.Core.run core 1 s = .next t := by
  have := run_succ 0 s
  rw [h] at this
  exact this

/-- A run of `k + l` steps is a run of `l` steps from where `k` steps lead. -/
theorem run_add (k l : Nat) (s t : State) (h : Host.Core.run core k s = .next t) :
    Host.Core.run core (k + l) s = Host.Core.run core l t := by
  induction k generalizing s with
  | zero => simp only [Host.Core.run] at h; injection h with h; subst h; simp
  | succ k ih =>
    rw [Nat.succ_add]
    simp only [Host.Core.run] at h ⊢
    cases hs : core.step s with
    | next u => rw [hs] at h; simp only at h ⊢; exact ih u h
    | fault r => rw [hs] at h; simp at h
    | refused r => rw [hs] at h; simp at h

end Sys2Proof.Machine
end

