-- ==== Sys2Proof/Laws/Memory.lean ====
section
/-! SUPPORT. The packet buffer: reading after a write, and the canonical form that every buffer operation keeps. -/

namespace Sys2Proof.Machine

@[simp] theorem Memory.read_nil (a : Nat) : Memory.read [] a = Memory.unlisted := rfl

@[simp] theorem Memory.read_cons (k : Nat) (v : Byte) (m : Memory) (a : Nat) :
    Memory.read ((k, v) :: m) a = if k = a then v else Memory.read m a := rfl

/-- The canonical form from one offset holds from every lower one. -/
theorem Memory.wfFrom_mono {lo hi : Nat} (h : lo ≤ hi) :
    ∀ {m : Memory}, Memory.wfFrom hi m = true → Memory.wfFrom lo m = true
  | [], _ => rfl
  | (k, v) :: m, hm => by
      simp only [Memory.wfFrom, Bool.and_eq_true, decide_eq_true_eq] at hm ⊢
      exact ⟨⟨⟨by omega, hm.1.1.2⟩, hm.1.2⟩, hm.2⟩

/-- Below its first offset a canonical buffer reads as unlisted. -/
theorem Memory.read_below {lo a : Nat} (h : a < lo) :
    ∀ {m : Memory}, Memory.wfFrom lo m = true → Memory.read m a = Memory.unlisted
  | [], _ => rfl
  | (k, v) :: m, hm => by
      simp only [Memory.wfFrom, Bool.and_eq_true, decide_eq_true_eq] at hm
      have hk : ¬ k = a := by omega
      simpa [hk] using Memory.read_below (lo := k + 1) (by omega) hm.2

/-- A read of a canonical buffer after a write: the written byte at its offset, every other byte as before. -/
theorem Memory.read_write_from (a : Nat) (b : Byte) (x : Nat) :
    ∀ (lo : Nat) (m : Memory), Memory.wfFrom lo m = true →
      Memory.read (Memory.write m a b) x = if x = a then b else Memory.read m x
  | lo, [], _ => by
      by_cases hb : b = Memory.unlisted
      · simp [Memory.write, hb]
      · simp [Memory.write, hb, eq_comm]
  | lo, (k, v) :: m, hm => by
      simp only [Memory.wfFrom, Bool.and_eq_true, decide_eq_true_eq] at hm
      have ih := Memory.read_write_from a b x (k + 1) m hm.2
      have below : ∀ y, y ≤ k → Memory.read m y = Memory.unlisted := fun y hy =>
        Memory.read_below (lo := k + 1) (by omega) hm.2
      simp only [Memory.write]
      by_cases h1 : a < k
      · by_cases hb : b = Memory.unlisted
        · by_cases hx : x = a
          · subst hx; simp [h1, hb, Nat.ne_of_gt h1, below x (by omega)]
          · simp [h1, hb, hx]
        · by_cases hx : x = a
          · subst hx; simp [h1, hb]
          · simp [h1, hb, hx, Ne.symm hx]
      · by_cases h2 : a = k
        · subst h2
          by_cases hb : b = Memory.unlisted
          · by_cases hx : x = a
            · subst hx; simp [hb, below x (by omega)]
            · simp [hb, hx, Ne.symm hx]
          · by_cases hx : x = a
            · subst hx; simp [hb]
            · simp [hb, hx, Ne.symm hx]
        · simp only [h1, h2, if_false, Memory.read_cons, ih]
          by_cases hx : k = x
          · subst hx; simp [Ne.symm h2]
          · simp [hx]

theorem Memory.read_write (m : Memory) (hm : m.wf = true) (a : Nat) (b : Byte) (x : Nat) :
    (m.write a b).read x = if x = a then b else m.read x :=
  Memory.read_write_from a b x 0 m hm

/-- A write inside the buffer keeps the canonical form. -/
theorem Memory.write_wfFrom (a : Nat) (b : Byte) (ha : a < Config.bufLen) :
    ∀ (lo : Nat) (m : Memory), lo ≤ a → Memory.wfFrom lo m = true → Memory.wfFrom lo (Memory.write m a b) = true
  | lo, [], hlo, _ => by
      by_cases hb : b = Memory.unlisted <;> simp [Memory.write, Memory.wfFrom, hb, hlo]
      exact ha
  | lo, (k, v) :: m, hlo, hm => by
      simp only [Memory.wfFrom, Bool.and_eq_true, decide_eq_true_eq] at hm
      obtain ⟨⟨⟨h1, h2⟩, h3⟩, h4⟩ := hm
      simp only [Memory.write]
      by_cases h5 : a < k
      · by_cases hb : b = Memory.unlisted
        · simp [h5, hb, Memory.wfFrom, h1, h3, h4]; exact h2
        · simp [h5, hb, Memory.wfFrom, hlo, h3, h4]; omega
      · by_cases h6 : a = k
        · by_cases hb : b = Memory.unlisted
          · simpa [h6, hb] using Memory.wfFrom_mono (by omega) h4
          · simp [h6, hb, Memory.wfFrom, h1, h4]; exact h2
        · have ih := Memory.write_wfFrom a b ha (k + 1) m (by omega) h4
          simp [h5, h6, Memory.wfFrom, h1, h3, ih]; exact h2

/-- Every write to an offset of the buffer keeps its canonical form. -/
theorem Memory.write_wf (m : Memory) (hm : m.wf = true) (a : Nat) (b : Byte) (ha : a < Config.bufLen) :
    (m.write a b).wf = true :=
  Memory.write_wfFrom a b ha 0 m (Nat.zero_le a) hm

/-- Bytes written one after another inside the buffer keep its canonical form. -/
theorem Memory.writeBytes_wf :
    ∀ (bs : List Byte) (m : Memory) (o : Nat), m.wf = true → o + bs.length ≤ Config.bufLen →
      (m.writeBytes o bs).wf = true
  | [], _, _, hm, _ => hm
  | b :: bs, m, o, hm, h => by
      simp only [List.length_cons] at h
      exact Memory.writeBytes_wf bs (m.write o b) (o + 1) (Memory.write_wf m hm o b (by omega)) (by omega)

/-- Reading after bytes are written from an offset on: the byte of the list inside, the old byte outside. -/
theorem Memory.read_writeBytes : ∀ (bs : List Byte) (m : Memory) (o x : Nat), m.wf = true →
    o + bs.length ≤ Config.bufLen →
    (m.writeBytes o bs).read x = if o ≤ x ∧ x < o + bs.length then bs.getD (x - o) 0 else m.read x
  | [], m, o, x, _, _ => by simp [Memory.writeBytes]
  | b :: bs, m, o, x, hm, h => by
      simp only [List.length_cons] at h
      have ih := Memory.read_writeBytes bs (m.write o b) (o + 1) x (Memory.write_wf m hm o b (by omega)) (by omega)
      rw [Memory.writeBytes, ih, Memory.read_write m hm]
      simp only [List.length_cons]
      by_cases hx : x = o
      · subst hx; simp
      · by_cases hl : o + 1 ≤ x ∧ x < o + 1 + bs.length
        · rw [if_pos hl, if_pos (by omega), show x - o = (x - (o + 1)) + 1 by omega]; rfl
        · rw [if_neg hl, if_neg hx, if_neg (by omega)]

theorem State.reset_buf_wf : State.reset.buf.wf = true := rfl

@[simp] theorem Memory.bytes_length (m : Memory) (o n : Nat) : (m.bytes o n).length = n := by simp [Memory.bytes]

@[simp] theorem Memory.candSpan_length (m : Memory) : m.candSpan.length = Config.candSpanLen := by
  simp [Memory.candSpan]

end Sys2Proof.Machine
end

