-- ==== Sys2Proof/Laws/PerInstr.lean ====
section
/-! SUPPORT. A family over all operations: the encoder writes canonical words only. One lemma per constructor. -/

namespace Sys2Proof.Laws.EncodesCanonically

/-- The word `encode` writes for the operation sets no bit that its format leaves without a meaning (R81, R90). -/
def Statement (i : Instr) : Prop := (encode i).canonical = true

/-- A byte token's word has its EOS bit clear (R81). -/
theorem byte_canonical (b : Byte) : (InputWord.src (Token.byte b).toWord).canonical = true := by
  have h : (0#1 ++ b).getLsbD 8 = false := by
    rw [BitVec.getLsbD_append, if_neg (by omega)]
    rfl
  exact Bool.or_eq_true_iff.mpr (.inl (by rw [Bool.not_eq_true']; exact h))

theorem start (n : Bool) (p : Option Pid) (r : Bool) : Statement (.start n p r) := rfl
theorem syncEos : Statement .syncEos := rfl
theorem syncAccept (b : Byte) : Statement (.syncAccept b) := byte_canonical b
theorem syncStop (b : Byte) : Statement (.syncStop b) := byte_canonical b
theorem syncSkip (b : Byte) : Statement (.syncSkip b) := byte_canonical b
theorem pktTrunc : Statement .pktTrunc := rfl
theorem pktByte (b : Byte) : Statement (.pktByte b) := byte_canonical b
theorem hdrDecode (h : Header) : Statement (.hdrDecode h) := rfl
theorem pesNoPrefix (w : PesWindow) : Statement (.pesNoPrefix w) := rfl
theorem pesExcluded (w : PesWindow) : Statement (.pesExcluded w) := rfl
theorem pesNoOpthdr (w : PesWindow) : Statement (.pesNoOpthdr w) := rfl
theorem pesNoPts (w : PesWindow) : Statement (.pesNoPts w) := rfl
theorem pesBadTag (w : PesWindow) : Statement (.pesBadTag w) := rfl
theorem pesPts (w : PesWindow) : Statement (.pesPts w) := rfl
theorem candSkipMarker (c : CandWindow) : Statement (.candSkipMarker c) := rfl
theorem candSkipReserved (c : CandWindow) : Statement (.candSkipReserved c) := rfl
theorem candSkipPidlock (c : CandWindow) : Statement (.candSkipPidlock c) := rfl
theorem candSkipNull (c : CandWindow) : Statement (.candSkipNull c) := rfl
theorem candIssue (c : CandWindow) : Statement (.candIssue c) := rfl
theorem decOk (s : Section) : Statement (.decOk s) := rfl
theorem decFail : Statement .decFail := rfl

end Sys2Proof.Laws.EncodesCanonically
end

