-- ==== Sys2Proof/Machine/Seconds.lean ====
section
/-! DEFINITION. `toSeconds` (R91): how a consumer of the events reads a raw timestamp. No operation of the block calls
it (R30, R89). -/

namespace Sys2Proof.Machine

/-- The timestamp in seconds, `raw / 90000` (R91). -/
def toSeconds (raw : Ticks) : ℚ := (raw.toNat : ℚ) / (Config.ptsClockHz : ℚ)

/-- `n / d` rounded to the nearest natural number, ties to even. -/
def divRoundEven (n d : Nat) : Nat :=
  let q := n / d
  let r := n % d
  if 2 * r < d then q else if d < 2 * r then q + 1 else if q % 2 = 0 then q else q + 1

/-- The least shift from `k` on, within `fuel` tries, that brings `n / d` to 53 bits or more. -/
def normalShift (n d : Nat) : Nat → Nat → Nat
  | 0, k => k
  | fuel + 1, k => if 2 ^ 52 * d ≤ n * 2 ^ k then k else normalShift n d fuel (k + 1)

/-- The IEEE 754 binary64 bits of `raw / 90000`, rounded to nearest, ties to even (R91). Every quotient but 0 lies
between 2^-17 and 2^17, so it is a normal number: the significand is the quotient shifted left by `k` and rounded, and
the biased exponent is 1023 + 52 - k. -/
def toSecondsBits (raw : Ticks) : BitVec 64 :=
  if raw = 0 then 0
  else
    let n := raw.toNat
    let d := Config.ptsClockHz
    let k := normalShift n d 70 0
    let m := divRoundEven (n * 2 ^ k) d
    -- a significand that rounds up to 2^53 carries into the exponent by itself, as the fields are added
    BitVec.ofNat 64 ((1023 + 52 - k - 1) * 2 ^ 52 + m)

end Sys2Proof.Machine
end

