-- ==== Sys2Proof/Tests/Slice0.lean ====
section
/-! SUPPORT. Small tests by kernel evaluation. Expected results are the vectors of 95_test_vectors.md (named in the
docstrings) or are worked out by hand from the formats. The witnesses at the end meet the hypotheses of the statements
for the provers, clause by clause. -/

namespace Sys2Proof.Tests

open Machine

/-! ### Helpers -/

/-- Power-on with a FIFO of two events, so that the depth is a number. -/
def quiet : State := { State.reset with params := { fifoDepth := 2 } }

/-- A state with the control point `f`. -/
def inState (f : Fsm) : State := { quiet with fsm := f }

/-- A state with the control point `f` and bytes offered. -/
def offering (f : Fsm) (b : List Byte) : State := { inState f with srcBytes := b }

/-- A state with the control point `f` at the end of the source. -/
def ended (f : Fsm) : State := { inState f with srcEos := true }

/-- PROCESS_PES with the window bytes `P[3..16]`. -/
def window (b : List Byte) : State := { inState .processPes with buf := Memory.writeBytes [] 3 b, pktCnt := 187 }

/-- PROCESS_CANDIDATE with `P[4]`, `HDR_PID`, the lock, the null-suppression flag and `P[17]`. -/
def candidate (m : Byte) (pid : Pid) (lv : Bool) (lp : Pid) (shown : Bool) (nul : Byte) : State :=
  { inState .processCandidate with
    buf := Memory.write (Memory.write [] 4 m) 17 nul
    hdr := ⟨false, true, false, pid, 0, 1, 0⟩
    lockValid := lv
    lockPid := lp
    cfgShowNull := shown
    pktCnt := 187 }

/-- WAIT_DECODER with an answer on the port. -/
def answered (pid : Pid) (lv : Bool) (lp : Pid) (r : Response) : State :=
  { inState .waitDecoder with
    hdr := ⟨false, true, false, pid, 0, 1, 0⟩
    lockValid := lv
    lockPid := lp
    decReq := some [0xFC]
    decAnswers := [r] }

/-- The outcome is a next state with the property. -/
def nextHas (r : Result) (p : State → Bool) : Bool :=
  match r with
  | .next t => p t
  | .fault _ => false
  | .refused _ => false

/-- The window of a media packet with the timestamp 90000 (V-PES-1). -/
def window1 : State := window [0x00, 0x00, 0x01, 0xE0, 0x00, 0x00, 0x80, 0x80, 0x05, 0x21, 0x00, 0x05, 0xBF, 0x21]

/-- The fields of V-PES-1's window, worked out by hand from R84. -/
def fields1 : PesWindow :=
  ⟨1, 0xE0, 0, 2, 0, 0, 0, 0, 0, 2, 5, 2, 0, 1, 2, 1, 24464, 1⟩

/-! ### WellFormed refuses an ill-formed term, one for each check -/

theorem test_ill_syncAccept : Instr.wellFormed {} (.syncAccept 0x46) = false := by decide
theorem test_ill_syncStop : Instr.wellFormed {} (.syncStop 0x47) = false := by decide
theorem test_ill_syncSkip : Instr.wellFormed {} (.syncSkip 0x47) = false := by decide
theorem test_ill_pesNoPrefix : Instr.wellFormed {} (.pesNoPrefix fields1) = false := by decide
theorem test_ill_pesExcluded_prefix :
    Instr.wellFormed {} (.pesExcluded { fields1 with startCode := 2, streamId := 0xBE }) = false := by decide
theorem test_ill_pesExcluded_id : Instr.wellFormed {} (.pesExcluded fields1) = false := by decide
theorem test_ill_pesNoOpthdr : Instr.wellFormed {} (.pesNoOpthdr fields1) = false := by decide
theorem test_ill_pesNoOpthdr_id :
    Instr.wellFormed {} (.pesNoOpthdr { fields1 with streamId := 0xBE, optMarker := 0 }) = false := by decide
theorem test_ill_pesNoPts : Instr.wellFormed {} (.pesNoPts fields1) = false := by decide
theorem test_ill_pesNoPts_marker :
    Instr.wellFormed {} (.pesNoPts { fields1 with optMarker := 3, ptsFlags := 0 }) = false := by decide
theorem test_ill_pesBadTag : Instr.wellFormed {} (.pesBadTag fields1) = false := by decide
theorem test_ill_pesBadTag_flags :
    Instr.wellFormed {} (.pesBadTag { fields1 with ptsFlags := 3, ptsTag := 3 }) = false := by decide
theorem test_ill_pesPts_tag : Instr.wellFormed {} (.pesPts { fields1 with ptsTag := 3 }) = false := by decide
theorem test_ill_pesPts_flags : Instr.wellFormed {} (.pesPts { fields1 with ptsFlags := 3 }) = false := by decide
theorem test_ill_pesPts_prefix : Instr.wellFormed {} (.pesPts { fields1 with startCode := 0 }) = false := by decide
theorem test_ill_candSkipMarker : Instr.wellFormed {} (.candSkipMarker ⟨0xFC, 33, 5⟩) = false := by decide
theorem test_ill_candSkipReserved : Instr.wellFormed {} (.candSkipReserved ⟨0xFC, 33, 5⟩) = false := by decide
theorem test_ill_candSkipReserved_marker :
    Instr.wellFormed {} (.candSkipReserved ⟨0xFB, 101, 5⟩) = false := by decide
theorem test_ill_candSkipPidlock : Instr.wellFormed {} (.candSkipPidlock ⟨0xFC, 101, 5⟩) = false := by decide
theorem test_ill_candSkipNull : Instr.wellFormed {} (.candSkipNull ⟨0xFC, 33, 5⟩) = false := by decide
theorem test_ill_candSkipNull_pid : Instr.wellFormed {} (.candSkipNull ⟨0xFC, 101, 0⟩) = false := by decide
theorem test_ill_candIssue : Instr.wellFormed {} (.candIssue ⟨0xFC, 101, 5⟩) = false := by decide
theorem test_ill_candIssue_marker : Instr.wellFormed {} (.candIssue ⟨0x00, 33, 5⟩) = false := by decide
theorem test_well_pesPts : Instr.wellFormed {} (.pesPts fields1) = true := by decide

/-! ### Decoding: words written out from the formats, one per constructor -/

/-- What the decoder reads from `w` in the state `f`, with the registers that R92 reads. -/
def decoded (f : Fsm) (w : InputWord) (resync lv : Bool := false) (lp : Pid := 0) (shown : Bool := true) :
    Option Instr :=
  (decode ⟨f, resync, lv, lp, shown, {}⟩ w).toOption

theorem test_word_start : decoded .idle (.host 1#1 ⟨false, some 44, true⟩) = some (.start false (some 44) true) := by
  decide
theorem test_word_host_not_asserted : decoded .idle (.host 0#1 {}) = none := by decide
theorem test_word_syncEos : decoded .seekSync (.src 0b1_0000_0000#9) = some .syncEos := by decide
theorem test_word_syncAccept : decoded .seekSync (.src 0b0_0100_0111#9) = some (.syncAccept 0x47) := by decide
theorem test_word_syncStop : decoded .seekSync (.src 0b0_0100_0110#9) = some (.syncStop 0x46) := by decide
theorem test_word_syncSkip : decoded .seekSync (.src 0b0_0001_0001#9) (resync := true) = some (.syncSkip 0x11) := by
  decide
theorem test_word_pktTrunc : decoded .readPacket (.src 0b1_0000_0000#9) = some .pktTrunc := by decide
theorem test_word_pktByte : decoded .readPacket (.src 0b0_1000_0001#9) = some (.pktByte 0x81) := by decide
theorem test_word_src_elsewhere : decoded .done (.src 0b0_0100_0111#9) = none := by decide

/-- V-HDR-2 and V-HDR-6: tei pusi prio pid tsc afc cc. -/
theorem test_word_hdrDecode_pusi :
    decoded .processHeader (.tsh 0b0_1_0_0000000100001_00_01_0000#24) =
      some (.hdrDecode ⟨false, true, false, 33, 0, 1, 0⟩) := by decide
theorem test_word_hdrDecode_tei :
    decoded .processHeader (.tsh 0b1_0_1_0000000000001_11_00_0101#24) =
      some (.hdrDecode ⟨true, false, true, 1, 3, 0, 5⟩) := by decide

/-- V-PES-1, bit by bit in the order of R84. -/
theorem test_word_pesPts :
    decoded .processPes
      (.pesw (0x000001#24 ++ 0xE0#8 ++ 0x0000#16 ++ 0b10#2 ++ 0b00#2 ++ 0b0#1 ++ 0b0#1 ++ 0b0#1 ++ 0b0#1 ++ 0b10#2
        ++ 0b00_0000_0000_0101#14 ++ 0b0010#4 ++ 0b000#3 ++ 0b1#1 ++ 0b000_0000_0000_0010#15 ++ 0b1#1
        ++ 0b101_1111_1001_0000#15 ++ 0b1#1)) = some (.pesPts fields1) := by decide
/-- V-PES-11. -/
theorem test_word_pesNoPrefix :
    decoded .processPes (.pesw 0x000002E0000080800521_0005BF21#112) =
      some (.pesNoPrefix { fields1 with startCode := 2 }) := by decide
/-- V-PES-12. -/
theorem test_word_pesExcluded :
    decoded .processPes (.pesw 0x000001BE000080800521_0005BF21#112) =
      some (.pesExcluded { fields1 with streamId := 0xBE }) := by decide
/-- V-PES-14. -/
theorem test_word_pesNoOpthdr :
    decoded .processPes (.pesw 0x000001E0000040800521_0005BF21#112) =
      some (.pesNoOpthdr { fields1 with optMarker := 1 }) := by decide
/-- V-PES-18. -/
theorem test_word_pesNoPts :
    decoded .processPes (.pesw 0x000001E0000080400521_0005BF21#112) =
      some (.pesNoPts { fields1 with ptsFlags := 1 }) := by decide
/-- V-PES-19. -/
theorem test_word_pesBadTag :
    decoded .processPes (.pesw 0x000001E0000080800531_0005BF21#112) =
      some (.pesBadTag { fields1 with ptsTag := 3 }) := by decide

/-- V-CAND-2: check 1 comes first. -/
theorem test_word_candSkipMarker :
    decoded .processCandidate (.candw (0xFB#8 ++ 0b0_0000_0110_0101#13 ++ 0x00#8)) (lv := true) (lp := 44)
      (shown := false) = some (.candSkipMarker ⟨0xFB, 101, 0⟩) := by decide
/-- V-CAND-4: check 2 before 3. -/
theorem test_word_candSkipReserved :
    decoded .processCandidate (.candw (0xFC#8 ++ 0b0_0000_0110_0101#13 ++ 0x05#8)) (lv := true) (lp := 101) =
      some (.candSkipReserved ⟨0xFC, 101, 5⟩) := by decide
/-- V-CAND-6: check 3 before 4. -/
theorem test_word_candSkipPidlock :
    decoded .processCandidate (.candw (0xFC#8 ++ 0b0_0000_0010_1100#13 ++ 0x00#8)) (lv := true) (lp := 33)
      (shown := false) = some (.candSkipPidlock ⟨0xFC, 44, 0⟩) := by decide
/-- V-CAND-7. -/
theorem test_word_candSkipNull :
    decoded .processCandidate (.candw (0xFC#8 ++ 0b0_0000_0010_0001#13 ++ 0x00#8)) (lv := true) (lp := 33)
      (shown := false) = some (.candSkipNull ⟨0xFC, 33, 0⟩) := by decide
/-- V-CAND-9. -/
theorem test_word_candIssue :
    decoded .processCandidate (.candw (0xFC#8 ++ 0b0_0000_0010_0001#13 ++ 0x00#8)) =
      some (.candIssue ⟨0xFC, 33, 0⟩) := by decide
theorem test_word_decOk (x : Section) : decoded .waitDecoder (.decr 1#1 x) = some (.decOk x) := rfl
theorem test_word_decFail : decoded .waitDecoder (.decr 0#1 Section.first) = some .decFail := by decide

/-- The opcode table's own patterns of PES_PTS and CAND_SKIP_RESERVED. -/
theorem test_table_pesPts : decodeTableWord 112 0x0000010000008080002000000000 =
    some (.pesPts ⟨1, 0, 0, 2, 0, 0, 0, 0, 0, 2, 0, 2, 0, 0, 0, 0, 0, 0⟩) := by decide
theorem test_table_candSkipReserved :
    decodeTableWord 32 0x1F806500 = some (.candSkipReserved ⟨0xFC, 101, 0⟩) := by decide
theorem test_table_candSkipNull : decodeTableWord 32 0x1F802100 = some (.candSkipNull ⟨0xFC, 33, 0⟩) := by decide
/-- A table word placed is the next step's operation. -/
theorem test_placed_hdrDecode :
    nextHas (step (State.reset.withFetchWord 24 0x402110)) (fun t => decide (t.hdr.pid = 33 ∧ t.fsm = .processPes)) =
      true := by decide
theorem test_placed_pesPts :
    nextHas (step (State.reset.withFetchWord 112 0x000001E00000808005210005BF21)) (fun t => decide (t.evq = [.ts 90000])) =
      true := by decide
theorem test_placed_start :
    nextHas (step (State.reset.withFetchWord 8 1)) (fun t => decide (t.fsm = .seekSync)) = true := by decide

/-! ### The operations -/

/-- V-RST-2. -/
theorem test_start_defaults :
    nextHas (exec (.start true none false) { quiet with lastPtsValid := true, evq := [.ts 1], lockValid := true })
      (fun t => decide (t.cfgShowNull = true ∧ t.cfgPidFilterEn = false ∧ t.lockValid = false ∧ t.evq = [] ∧
        t.lastPtsValid = false ∧ t.fsm = .seekSync)) = true := by decide
/-- V-RST-3. -/
theorem test_start_filter :
    nextHas (exec (.start false (some 44) true) quiet)
      (fun t => decide (t.cfgPidFilter = 44 ∧ t.lockPid = 44 ∧ t.lockValid = true ∧ t.cfgResync = true ∧
        t.cfgShowNull = false)) = true := by decide
/-- V-SYNC-1. -/
theorem test_syncEos :
    nextHas (exec .syncEos (ended .seekSync)) (fun t => decide (t.fsm = .done ∧ t.doneReason = .endOfData)) = true := by
  decide
/-- V-SYNC-2. -/
theorem test_syncAccept :
    nextHas (exec (.syncAccept 0x47) { offering .seekSync [0x47, 0x12] with pktCnt := 187 })
      (fun t => decide (t.fsm = .readPacket ∧ t.pktCnt = 0 ∧ t.srcBytes = [0x12] ∧ t.buf = [])) = true := by decide
/-- V-SYNC-4. -/
theorem test_syncStop :
    nextHas (exec (.syncStop 0x46) (offering .seekSync [0x46]))
      (fun t => decide (t.fsm = .done ∧ t.doneReason = .syncLoss ∧ t.srcBytes = [])) = true := by decide
/-- V-SYNC-5's first step. -/
theorem test_syncSkip :
    nextHas (exec (.syncSkip 0x00) { offering .seekSync [0x00, 0x11, 0x47] with cfgResync := true })
      (fun t => decide (t.fsm = .seekSync ∧ t.cnt.resync = 1 ∧ t.srcBytes = [0x11, 0x47])) = true := by decide
/-- V-SYNC-7: a marker value inside a packet is data. -/
theorem test_pktByte_first :
    nextHas (exec (.pktByte 0x47) (offering .readPacket [0x47]))
      (fun t => decide (t.fsm = .readPacket ∧ t.buf.read 0 = 0x47 ∧ t.pktCnt = 1 ∧ t.cnt.pkt = 0)) = true := by decide
/-- V-SYNC-8 and V-CNT-1. -/
theorem test_pktByte_last :
    nextHas (exec (.pktByte 0x12)
        { offering .readPacket [0x12] with pktCnt := 186, cnt := { ({} : Counters) with pkt := 0xFFFFFFFF } })
      (fun t => decide (t.fsm = .processHeader ∧ t.buf.read 186 = 0x12 ∧ t.pktCnt = 187 ∧ t.cnt.pkt = 0)) = true := by
  decide
/-- V-SYNC-10. -/
theorem test_pktTrunc :
    nextHas (exec .pktTrunc { ended .readPacket with pktCnt := 186 })
      (fun t => decide (t.fsm = .done ∧ t.doneReason = .truncated ∧ t.cnt.pkt = 0)) = true := by decide
/-- V-HDR-7 and V-HDR-8. -/
theorem test_hdrDecode_pes :
    nextHas (blockStep { inState .processHeader with buf := Memory.writeBytes [] 0 [0x5F, 0xFF, 0x3A] })
      (fun t => decide (t.hdr = ⟨false, true, false, 8191, 0, 3, 10⟩ ∧ t.fsm = .processPes)) = true := by decide
theorem test_hdrDecode_candidate :
    nextHas (blockStep { inState .processHeader with buf := Memory.writeBytes [] 0 [0x80, 0x00, 0x20] })
      (fun t => decide (t.hdr = ⟨true, false, false, 0, 0, 2, 0⟩ ∧ t.fsm = .processCandidate)) = true := by decide
/-- V-PES-10: the window of a candidate. -/
theorem test_pesNoPrefix :
    nextHas (blockStep (window [0x00, 0xFC, 0x30, 0x11, 0, 0, 0, 0, 0, 0, 0, 0xFF, 0xF0, 0x00]))
      (fun t => decide (t.fsm = .processCandidate ∧ t.evq = [] ∧ t.cnt.pts = 0)) = true := by decide
/-- V-PES-12. -/
theorem test_pesExcluded :
    nextHas (blockStep (window [0, 0, 1, 0xBE, 0, 0, 0x80, 0x80, 5, 0x21, 0, 5, 0xBF, 0x21]))
      (fun t => decide (t.fsm = .processCandidate ∧ t.evq = [] ∧ t.lastPtsValid = false)) = true := by decide
/-- V-PES-13. -/
theorem test_pesNoOpthdr :
    nextHas (blockStep (window [0, 0, 1, 0xE0, 0, 0, 0x0F, 0x80, 5, 0x21, 0, 5, 0xBF, 0x21]))
      (fun t => decide (t.fsm = .processCandidate ∧ t.evq = [])) = true := by decide
/-- V-PES-16. -/
theorem test_pesNoPts :
    nextHas (blockStep (window [0, 0, 1, 0xE0, 0, 0, 0x80, 0xC0, 0x0A, 0x31, 0, 5, 0xBF, 0x21]))
      (fun t => decide (t.fsm = .processCandidate ∧ t.evq = [])) = true := by decide
/-- V-PES-20. -/
theorem test_pesBadTag :
    nextHas (blockStep (window [0, 0, 1, 0xE0, 0, 0, 0x80, 0x80, 5, 0x01, 0, 5, 0xBF, 0x21]))
      (fun t => decide (t.fsm = .processCandidate ∧ t.evq = [])) = true := by decide
/-- V-PES-4. -/
theorem test_pesPts_greatest :
    nextHas (blockStep (window [0, 0, 1, 0xE0, 0, 0, 0x80, 0x80, 5, 0x2F, 0xFF, 0xFF, 0xFF, 0xFF]))
      (fun t => decide (t.evq = [.ts 8589934591] ∧ t.lastPts = 8589934591 ∧ t.lastPtsValid = true ∧ t.cnt.pts = 1 ∧
        t.fsm = .processCandidate)) = true := by decide
/-- V-PES-7. -/
theorem test_pesPts_audio :
    nextHas (blockStep (window [0, 0, 1, 0xC0, 0, 0, 0x80, 0x80, 5, 0x21, 0x1D, 0x6F, 0x9A, 0x2B]))
      (fun t => decide (t.evq = [.ts 123456789])) = true := by decide
/-- V-CAND-1. -/
theorem test_candSkipMarker :
    nextHas (blockStep (candidate 0x00 33 false 0 true 5))
      (fun t => decide (t.cnt.skipMarker = 1 ∧ t.fsm = .seekSync ∧ t.decReq = none)) = true := by decide
/-- V-CAND-3. -/
theorem test_candSkipReserved :
    nextHas (blockStep (candidate 0xFC 101 false 0 true 5))
      (fun t => decide (t.cnt.skipReserved = 1 ∧ t.fsm = .seekSync)) = true := by decide
/-- V-CAND-5. -/
theorem test_candSkipPidlock :
    nextHas (blockStep (candidate 0xFC 44 true 33 true 5))
      (fun t => decide (t.cnt.skipPidlock = 1 ∧ t.fsm = .seekSync)) = true := by decide
/-- V-CAND-8. -/
theorem test_candSkipNull :
    nextHas (blockStep (candidate 0xFC 33 false 0 false 0))
      (fun t => decide (t.cnt.skipNull = 1 ∧ t.fsm = .seekSync)) = true := by decide
/-- V-CAND-12: PID 0 is not reserved. -/
theorem test_candIssue :
    nextHas (blockStep (candidate 0xFC 0 false 0 true 5))
      (fun t => decide (t.fsm = .waitDecoder ∧ t.decReq.map (List.take 2) = some [0xFC, 0x00])) = true := by decide
/-- V-DEC-1. -/
theorem test_decOk_locks :
    nextHas (blockStep (answered 33 false 0 (.ok Section.first)))
      (fun t => decide (t.evq = [.sec Section.first] ∧ t.lockValid = true ∧ t.lockPid = 33 ∧
        t.lastSection = Section.first ∧ t.cnt.sections = 1 ∧ t.fsm = .seekSync)) = true := by decide
/-- V-DEC-7: with EVQ full the response waits. -/
theorem test_decOk_waits :
    nextHas (blockStep { answered 33 false 0 (.ok Section.first) with evq := [.ts 0, .ts 1] })
      (fun t => decide (t = { answered 33 false 0 (.ok Section.first) with evq := [.ts 0, .ts 1] })) = true := by decide
/-- V-DEC-5. -/
theorem test_decFail :
    nextHas (blockStep (answered 33 true 33 .fail))
      (fun t => decide (t.cnt.decFail = 1 ∧ t.lockValid = true ∧ t.lockPid = 33 ∧ t.evq = [] ∧ t.decReq = none ∧
        t.fsm = .seekSync)) = true := by decide

/-! ### The other agents, and toSeconds -/

/-- R40 and I10: a read of LOCK_PID after START, with LOCK_VALID 0. -/
theorem test_read_unspecified :
    (match step { inState .seekSync with lockValid := false, turns := [.host (.read .lockPid)] } with
      | .fault r => decide (r = .unspecifiedRead .lockPid)
      | .next _ => false
      | .refused _ => false) = true := by decide
/-- R261 leaves CFG_PID_FILTER unwritten without a filter, and R36 lets it be read at any time. -/
theorem test_read_filter_of_last_stream :
    nextHas (step { (State.openStream { inState .done with cfgPidFilter := 44 } {}) with turns := [.host (.read .cfgPidFilter)] })
      (fun t => decide (t.hostSeen = [(.cfgPidFilter, .bits 44)])) = true := by decide
theorem test_source_after_eos :
    nextHas (step { ended .readPacket with turns := [.source (.byte 1)] }) (fun t => decide (t.srcBytes = [])) = true := by
  decide
theorem test_sink_takes_head :
    nextHas (step { quiet with evq := [.ts 1, .ts 2], turns := [.sink] })
      (fun t => decide (t.evq = [.ts 2] ∧ t.sinkSeen = [.ts 1])) = true := by decide

/-- V-PTS-7, V-PTS-8, V-PTS-9, V-PTS-11, V-PTS-15 and V-PTS-2: the binary64 bits of the seconds printed there. -/
theorem test_seconds_90000 : toSecondsBits 90000 = 0x3FF0000000000000#64 := by decide
theorem test_seconds_900000 : toSecondsBits 900000 = 0x4024000000000000#64 := by decide
theorem test_seconds_903003 : toSecondsBits 903003 = 0x402411156F8C3840#64 := by decide
theorem test_seconds_123456789 : toSecondsBits 123456789 = 0x40956EF7E90FF972#64 := by decide
theorem test_seconds_greatest : toSecondsBits 8589934591 = 0x40F74D3B7B9BB18A#64 := by decide
theorem test_seconds_one_tick : toSecondsBits 1 = 0x3EE74D3B7BA75828#64 := by decide

/-! ### Witnesses: concrete states that meet the hypotheses of each statement, clause by clause

The name is `witness_` and the statement's name; a clause has its own witness where one state does not meet them all. -/

theorem witness_PowerOnIsIdleAndOnlyStartActs : State.reset.fsm = .idle ∧ Instr.syncEos ≠ .start true none false := by
  decide
theorem witness_StartOpensStream_idle : State.reset.fsm = .idle := rfl
theorem witness_StartOpensStream_done : (inState .done).fsm = .done := rfl
theorem witness_StartMidStreamChangesNoRegister :
    (inState .readPacket).fsm ≠ .idle ∧ (inState .readPacket).fsm ≠ .done := by decide

/-- A START of the host from DONE with a filter. -/
def startTurn : State :=
  { inState .done with turns := [.host .start], hostIn := ⟨false, some 8191, true⟩ }
theorem witness_ConfigurationIsLatchedAtStart_start :
    nextHas (step startTurn) (fun t => decide (t.cfgPidFilter = 8191 ∧ t.cfgResync = true)) = true := by decide
theorem witness_ConfigurationIsLatchedAtStart_kept :
    nextHas (step { startTurn with fsm := .readPacket }) (fun t => decide (t.cfgPidFilter = 0)) = true := by decide
theorem witness_ConfigurationIsLatchedAtStart_inputs :
    ({ quiet with turns := [.host (.configure {})] } : State).turns = .host (.configure {}) :: [] := rfl

theorem witness_SyncEosEndsStreamAtEndOfData :
    (ended .seekSync).fsm = .seekSync ∧ (ended .seekSync).srcBytes = [] ∧ (ended .seekSync).srcEos = true := by decide
theorem witness_SyncAcceptEntersReadPacket :
    (offering .seekSync [0x47]).fsm = .seekSync ∧ (offering .seekSync [0x47]).srcBytes = 0x47 :: [] ∧
      (0x47 : Byte) = (offering .seekSync [0x47]).params.syncByte := by decide
theorem witness_SyncStopEndsStreamAtSyncLoss :
    (offering .seekSync [0x46]).fsm = .seekSync ∧ (offering .seekSync [0x46]).srcBytes = 0x46 :: [] ∧
      (0x46 : Byte) ≠ (offering .seekSync [0x46]).params.syncByte ∧ (offering .seekSync [0x46]).cfgResync = false := by
  decide
/-- SEEK_SYNC with resynchronization on. -/
def resyncing : State := { offering .seekSync [0xFF] with cfgResync := true }
theorem witness_SyncSkipTriesNextByte :
    resyncing.fsm = .seekSync ∧ resyncing.srcBytes = 0xFF :: [] ∧ (0xFF : Byte) ≠ resyncing.params.syncByte ∧
      resyncing.cfgResync = true := by decide
theorem witness_PktByteStoresAtPktCnt_first :
    (offering .readPacket [0x47]).buf.wf = true ∧ (offering .readPacket [0x47]).fsm = .readPacket ∧
      (offering .readPacket [0x47]).srcBytes = 0x47 :: [] ∧ (offering .readPacket [0x47]).pktCnt.toNat ≤ 186 := by decide
/-- One byte short of a packet. -/
def lastByteNext : State := { offering .readPacket [0x12] with pktCnt := 186 }
theorem witness_PktByteStoresAtPktCnt_last :
    lastByteNext.buf.wf = true ∧ lastByteNext.fsm = .readPacket ∧ lastByteNext.srcBytes = 0x12 :: [] ∧
      lastByteNext.pktCnt.toNat ≤ 186 ∧ lastByteNext.pktCnt.toNat = 186 := by decide
theorem witness_PktTruncEndsStreamTruncated :
    (ended .readPacket).fsm = .readPacket ∧ (ended .readPacket).srcBytes = [] ∧ (ended .readPacket).srcEos = true := by
  decide
theorem witness_NoTokenHoldsTheBlock_seekSync :
    (inState .seekSync).fsm = .seekSync ∧ (inState .seekSync).srcBytes = [] ∧ (inState .seekSync).srcEos = false := by
  decide
theorem witness_NoTokenHoldsTheBlock_readPacket :
    (inState .readPacket).fsm = .readPacket ∧ (inState .readPacket).srcBytes = [] ∧
      (inState .readPacket).srcEos = false := by decide
/-- A marker, 187 bytes, and one byte more. -/
def packetNext : State := offering .seekSync (0x47 :: (List.replicate 187 0xAB ++ [0x47]))
theorem witness_MarkerAndBytesFillTheBuffer :
    packetNext.buf.wf = true ∧ packetNext.turns = [] ∧ packetNext.fsm = .seekSync ∧
      (List.replicate 187 (0xAB : Byte)).length = 187 ∧
      packetNext.srcBytes = packetNext.params.syncByte :: (List.replicate 187 0xAB ++ [0x47]) :=
  ⟨rfl, rfl, rfl, rfl, rfl⟩

theorem witness_HdrDecodeWritesHeaderBits : (inState .processHeader).fsm = .processHeader := rfl
theorem witness_UnreadHeaderFieldsHaveNoEffect :
    ∃ t, blockStep (candidate 0xFC 33 false 0 true 5) = .next t := ⟨_, rfl⟩
theorem witness_WindowFieldsReadMostSignificantBitFirst : (97 + 15 ≤ 112 ∧ 14 < 15) ∧ 0 + 24 ≤ 112 ∧ 0 < 24 := by decide

/-- A window with one field of V-PES-1 changed, or none. -/
def windowWith (pre sid opt flags tag : Byte) : State :=
  window [0x00, 0x00, pre, sid, 0x00, 0x00, opt, flags, 0x05, tag, 0x00, 0x05, 0xBF, 0x21]
theorem witness_PesNoPrefixGoesToCandidate :
    (windowWith 2 0xE0 0x80 0x80 0x21).fsm = .processPes ∧
      (windowWith 2 0xE0 0x80 0x80 0x21).buf.windowOfBytes.startCode ≠ 1 := by decide
theorem witness_PesExcludedGoesToCandidate :
    (windowWith 1 0xFF 0x80 0x80 0x21).fsm = .processPes ∧ (windowWith 1 0xFF 0x80 0x80 0x21).buf.windowOfBytes.startCode = 1 ∧
      (windowWith 1 0xFF 0x80 0x80 0x21).buf.windowOfBytes.streamId ∈
        (windowWith 1 0xFF 0x80 0x80 0x21).params.excludedIds := by decide
theorem witness_PesNoOpthdrGoesToCandidate :
    (windowWith 1 0xE0 0xC0 0x80 0x21).fsm = .processPes ∧ (windowWith 1 0xE0 0xC0 0x80 0x21).buf.windowOfBytes.startCode = 1 ∧
      (windowWith 1 0xE0 0xC0 0x80 0x21).buf.windowOfBytes.streamId ∉
        (windowWith 1 0xE0 0xC0 0x80 0x21).params.excludedIds ∧
      (windowWith 1 0xE0 0xC0 0x80 0x21).buf.windowOfBytes.optMarker ≠ 0b10#2 := by decide
theorem witness_PesNoPtsGoesToCandidate :
    (windowWith 1 0xE0 0x80 0xC0 0x21).fsm = .processPes ∧ (windowWith 1 0xE0 0x80 0xC0 0x21).buf.windowOfBytes.startCode = 1 ∧
      (windowWith 1 0xE0 0x80 0xC0 0x21).buf.windowOfBytes.streamId ∉
        (windowWith 1 0xE0 0x80 0xC0 0x21).params.excludedIds ∧
      (windowWith 1 0xE0 0x80 0xC0 0x21).buf.windowOfBytes.optMarker = 0b10#2 ∧
      (windowWith 1 0xE0 0x80 0xC0 0x21).buf.windowOfBytes.ptsFlags ≠ 0b10#2 := by decide
theorem witness_PesBadTagGoesToCandidate :
    (windowWith 1 0xE0 0x80 0x80 0x31).fsm = .processPes ∧ (windowWith 1 0xE0 0x80 0x80 0x31).buf.windowOfBytes.startCode = 1 ∧
      (windowWith 1 0xE0 0x80 0x80 0x31).buf.windowOfBytes.streamId ∉
        (windowWith 1 0xE0 0x80 0x80 0x31).params.excludedIds ∧
      (windowWith 1 0xE0 0x80 0x80 0x31).buf.windowOfBytes.optMarker = 0b10#2 ∧
      (windowWith 1 0xE0 0x80 0x80 0x31).buf.windowOfBytes.ptsFlags = 0b10#2 ∧
      (windowWith 1 0xE0 0x80 0x80 0x31).buf.windowOfBytes.ptsTag ≠ 2#4 := by decide
theorem witness_PesPtsEmitsTimestamp :
    window1.fsm = .processPes ∧ window1.buf.windowOfBytes = fields1 ∧ fields1.startCode = 1 ∧
      fields1.streamId ∉ window1.params.excludedIds ∧ fields1.optMarker = 0b10#2 ∧ fields1.ptsFlags = 0b10#2 ∧
      fields1.ptsTag = 2#4 ∧ window1.evq.length < window1.params.fifoDepth ∧
      (90000 : Ticks).toNat =
        fields1.ptsHi.toNat * 2 ^ 30 + fields1.ptsMid.toNat * 2 ^ 15 + fields1.ptsLo.toNat := by decide
theorem witness_TimestampMarkersAreNotChecked :
    decodePes window1.context fields1 = .pesPts fields1 ∧
      decodePes window1.context { fields1 with startCode := 2 } = .pesNoPrefix { fields1 with startCode := 2 } := by decide
theorem witness_NoTimestampOutcomeWritesFsmOnly :
    (windowWith 2 0xE0 0x80 0x80 0x21).fsm = .processPes ∧
      (windowWith 2 0xE0 0x80 0x80 0x21).selected = some (.pesNoPrefix { fields1 with startCode := 2 }) := by decide
/-- V-PES-1 with EVQ full. -/
def window1Full : State := { window1 with evq := [.ts 1, .ts 2] }
theorem witness_PesPtsWaitsForRoomOnly_full : window1Full.params.fifoDepth ≤ window1Full.evq.length := by decide
theorem witness_PesPtsWaitsForRoomOnly_drained :
    window1Full.selected = some (.pesPts fields1) ∧ window1Full.evq = .ts 1 :: [.ts 2] ∧
      window1Full.evq.length = window1Full.params.fifoDepth := by decide
theorem witness_PesPtsWaitsForRoomOnly_others :
    ({ windowWith 1 0xE0 0x80 0x80 0x31 with evq := [.ts 1, .ts 2] } : State).fsm = .processPes ∧
      ({ windowWith 1 0xE0 0x80 0x80 0x31 with evq := [.ts 1, .ts 2] } : State).selected =
        some (.pesBadTag { fields1 with ptsTag := 3 }) := by decide
/-- The window of V-PES-1 in a packet whose other bytes and registers differ. -/
def window1Other : State :=
  { window1 with buf := Memory.write window1.buf 17 0x55, hdr := ⟨true, true, true, 1, 3, 3, 9⟩, lockValid := true }
theorem witness_PesOutcomeDependsOnWindowBytesOnly :
    window1.fsm = .processPes ∧ window1Other.fsm = .processPes ∧ window1.params = window1Other.params ∧
      window1 ≠ window1Other ∧
      ∀ a, a < 17 → 3 ≤ a → window1.buf.read a = window1Other.buf.read a := by decide
theorem witness_TimestampIgnoresCandidateFilterState : window1.fsm = .processPes := rfl

theorem witness_CandSkipMarkerSkips :
    (candidate 0xFB 101 true 44 false 0).fsm = .processCandidate ∧
      (candidate 0xFB 101 true 44 false 0).buf.read 4 ≠ 0xFC := by decide
theorem witness_CandSkipReservedSkips :
    (candidate 0xFC 101 true 101 true 5).fsm = .processCandidate ∧
      (candidate 0xFC 101 true 101 true 5).buf.read 4 = 0xFC ∧ (candidate 0xFC 101 true 101 true 5).hdr.pid = 101 := by
  decide
theorem witness_CandSkipPidlockSkips :
    (candidate 0xFC 44 true 33 false 0).fsm = .processCandidate ∧
      (candidate 0xFC 44 true 33 false 0).buf.read 4 = 0xFC ∧ (candidate 0xFC 44 true 33 false 0).hdr.pid ≠ 101 ∧
      (candidate 0xFC 44 true 33 false 0).lockValid = true ∧
      (candidate 0xFC 44 true 33 false 0).hdr.pid ≠ (candidate 0xFC 44 true 33 false 0).lockPid := by decide
theorem witness_CandSkipNullSkips :
    (candidate 0xFC 33 true 33 false 0).fsm = .processCandidate ∧
      (candidate 0xFC 33 true 33 false 0).buf.read 4 = 0xFC ∧ (candidate 0xFC 33 true 33 false 0).hdr.pid ≠ 101 ∧
      ((candidate 0xFC 33 true 33 false 0).lockValid = true →
        (candidate 0xFC 33 true 33 false 0).hdr.pid = (candidate 0xFC 33 true 33 false 0).lockPid) ∧
      (candidate 0xFC 33 true 33 false 0).cfgShowNull = false ∧
      (candidate 0xFC 33 true 33 false 0).buf.read 17 = 0 := by decide
theorem witness_CandIssueSendsTheSpan :
    (candidate 0xFC 33 false 0 false 5).fsm = .processCandidate ∧
      (candidate 0xFC 33 false 0 false 5).buf.read 4 = 0xFC ∧ (candidate 0xFC 33 false 0 false 5).hdr.pid ≠ 101 ∧
      ((candidate 0xFC 33 false 0 false 5).lockValid = true →
        (candidate 0xFC 33 false 0 false 5).hdr.pid = (candidate 0xFC 33 false 0 false 5).lockPid) ∧
      ((candidate 0xFC 33 false 0 false 5).cfgShowNull = false →
        (candidate 0xFC 33 false 0 false 5).buf.read 17 ≠ 0) := by decide
/-- An answer on the port with room for one event. -/
def answeredHalf : State := { answered 33 false 0 (.ok Section.first) with evq := [.ts 1] }
theorem witness_DecOkEmitsAndLocks_room :
    answeredHalf.fsm = .waitDecoder ∧ answeredHalf.decReq = some [0xFC] ∧ answeredHalf.decAnswers = .ok Section.first :: [] ∧
      answeredHalf.evq.length < answeredHalf.params.fifoDepth := by decide
/-- An answer on the port while EVQ is full. -/
def answeredFull : State := { answered 33 false 0 (.ok Section.first) with evq := [.ts 1, .ts 2] }
theorem witness_DecOkEmitsAndLocks_full :
    answeredFull.fsm = .waitDecoder ∧ answeredFull.decReq = some [0xFC] ∧ answeredFull.decAnswers = .ok Section.first :: [] ∧
      answeredFull.params.fifoDepth ≤ answeredFull.evq.length := by decide
theorem witness_DecFailSkipsThePacket :
    (answered 33 true 33 .fail).fsm = .waitDecoder ∧ (answered 33 true 33 .fail).decReq = some [0xFC] ∧
      (answered 33 true 33 .fail).decAnswers = .fail :: [] := by decide
theorem witness_LockIsStableAndGuardsTheDecoder :
    (∃ t, step (candidate 0xFC 33 true 33 true 5) = .next t) ∧ (candidate 0xFC 33 true 33 true 5).lockValid = true ∧
      (candidate 0xFC 33 true 33 true 5).decReq = none ∧
      nextHas (step (candidate 0xFC 33 true 33 true 5)) (fun t => t.decReq.isSome) = true :=
  ⟨⟨_, rfl⟩, rfl, rfl, rfl⟩
theorem witness_NullSuppressionGuardsTheDecoder :
    (candidate 0xFC 33 false 0 false 5).cfgShowNull = false ∧ (candidate 0xFC 33 false 0 false 5).decReq = none ∧
      nextHas (step (candidate 0xFC 33 false 0 false 5)) (fun t => t.decReq.isSome) = true := by decide
theorem witness_OnlyMarkedUnreservedPacketsReachTheDecoder :
    (candidate 0xFC 102 false 0 true 0).decReq = none ∧
      nextHas (step (candidate 0xFC 102 false 0 true 0)) (fun t => t.decReq.isSome) = true := by decide

theorem witness_DoneIsFinalForTheStream : (inState .done).fsm = .done := rfl
theorem witness_OnlyPesPtsAndDecOkEmit_pesPts : ∃ t, exec (.pesPts fields1) window1 = .next t := ⟨_, rfl⟩
theorem witness_OnlyPesPtsAndDecOkEmit_decOk :
    nextHas (exec (.decOk Section.first) (answered 33 false 0 (.ok Section.first)))
      (fun t => decide (t.evq = [.sec Section.first])) = true := by
  decide
theorem witness_SinkRemovesTheHeadEvent :
    ({ window1Full with turns := [.sink] } : State).turns = .sink :: [] ∧ window1Full.evq = .ts 1 :: [.ts 2] ∧
      ({ quiet with turns := [.sink] } : State).evq = [] := by decide
theorem witness_EmittedEventsAreKeptInOrder : ∃ t, step { window1Full with turns := [.sink] } = .next t := ⟨_, rfl⟩
/-- V-PES-1 with room for one event more. -/
def window1Half : State := { window1 with evq := [.ts 1] }
theorem witness_SinkAndBlockCommute_room :
    window1Half.evq ≠ [] ∧ window1Half.evq.length < window1Half.params.fifoDepth ∧
      nextHas (blockStep window1Half) (fun t => decide (t.evq.length = 2)) = true := by decide
/-- A marker is next, with EVQ full. -/
def markerFull : State := { offering .seekSync [0x47] with evq := [.ts 1, .ts 2], params := { fifoDepth := 2 } }
theorem witness_SinkAndBlockCommute_full :
    markerFull.evq ≠ [] ∧ markerFull.evq.length = markerFull.params.fifoDepth ∧
      (∀ w, markerFull.selected ≠ some (.pesPts w)) ∧ (∀ x, markerFull.selected ≠ some (.decOk x)) ∧
      nextHas (blockStep markerFull) (fun t => decide (t.fsm = .readPacket)) = true := by
  have h : markerFull.selected = some (.syncAccept 0x47) := by decide
  exact ⟨by decide, by decide, by simp [h], by simp [h], by decide⟩
theorem witness_CountersWrapAndAreSeparate : Counter.pts ≠ Counter.pkt := by decide
/-- A read in IDLE, and one after START of a register that no valid bit guards. -/
theorem witness_HostReadHasNoSideEffect_answers :
    nextHas (step { State.reset with turns := [.host (.read .lastSection)] })
        (fun t => decide (t.hostSeen = [(.lastSection, .object Section.first)])) = true ∧
      nextHas (step { inState .seekSync with turns := [.host (.read .fsm)] })
        (fun t => decide (t.hostSeen = [(.fsm, .bits 1)])) = true := by decide
theorem witness_HostReadHasNoSideEffect_faults :
    (inState .seekSync).fsm ≠ .idle ∧ (inState .seekSync).lockValid = false ∧ (inState .seekSync).lastPtsValid = false ∧
      (inState .seekSync).lastSectionValid = false := by decide

theorem witness_SelectionIsTotalAndExclusive_word :
    (offering .readPacket [0x47]).inputWord = some (.src 0x047#9) := by decide
theorem witness_SelectionIsTotalAndExclusive_none :
    (inState .waitDecoder).inputWord = none ∧ (inState .seekSync).inputWord = none ∧ State.reset.inputWord = none := by
  decide
/-- The context of PROCESS_CANDIDATE with PID 33 locked and null packets suppressed. -/
def lockedContext : Context := ⟨.processCandidate, false, true, 33, false, {}⟩
theorem witness_DecodeReadsBackEveryEncoding :
    Instr.wellFormed lockedContext.params (.candSkipNull ⟨0xFC, 33, 0⟩) = true ∧
      Instr.enabledIn lockedContext (.candSkipNull ⟨0xFC, 33, 0⟩) = true ∧
      Instr.wellFormed lockedContext.params (.candSkipPidlock ⟨0xFC, 8191, 0⟩) = true ∧
      Instr.enabledIn lockedContext (.candSkipPidlock ⟨0xFC, 8191, 0⟩) = true := by decide
theorem witness_EncodeWritesBackEveryDecoding :
    InputWord.canonical (.decr 0#1 Section.first) = true ∧ decoded .waitDecoder (.decr 0#1 Section.first) = some .decFail ∧
      InputWord.canonical (.src 0x100#9) = true ∧ decoded .seekSync (.src 0x100#9) = some .syncEos := by decide
theorem witness_StepRunsTheDecodedOperation_block :
    (ended .readPacket).turns = [] ∧ (ended .readPacket).inputWord = some (.src 0x100#9) ∧
      (decode (ended .readPacket).context (.src 0x100#9)).toOption = some .pktTrunc := by decide
theorem witness_StepRunsTheDecodedOperation_turn :
    ({ ended .readPacket with turns := [.block, .sink] } : State).turns = .block :: [.sink] ∧
      ({ ended .readPacket with turns := [.block, .sink] } : State).inputWord = some (.src 0x100#9) := by decide
theorem witness_StepRunsTheDecodedOperation_start : startTurn.turns = .host .start :: [] := rfl
theorem witness_PlacedTableWordIsRunNext :
    State.reset.buf.wf = true ∧ decodeTableWord 16 0x147 = some .syncEos ∧ decodeTableWord 8 1 = some (.start true none false) ∧
      decodeTableWord 24 0x402110 = some (.hdrDecode ⟨false, true, false, 33, 0, 1, 0⟩) := by decide
theorem witness_TransitionsAreTheTable :
    nextHas (exec (.syncStop 0x46) (offering .seekSync [0x46])) (fun t => decide (t.fsm = .done)) = true := by decide
theorem witness_TokensAreTakenInTwoStatesOnly :
    nextHas (exec (.pktByte 0x47) (offering .readPacket [0x47])) (fun t => decide (t.srcBytes = [])) = true := by decide

/-- A packet in the buffer, the decoder's answer ready, and room for two events. -/
def packetHere : State :=
  { inState .processHeader with
    buf := [(0, 0x40), (1, 0x21), (2, 0x10), (4, 0xFC), (17, 0x05)]
    pktCnt := 187
    decAnswers := [.fail] }
theorem packetHere_inv : Inv packetHere := by
  constructor <;> decide
theorem witness_InvariantIsKeptByEveryStep :
    Inv packetHere ∧ ∃ t, step packetHere = .next t := ⟨packetHere_inv, _, rfl⟩
theorem witness_NoOperationFaults : Inv packetHere := packetHere_inv
theorem witness_PacketIsDoneInFourSteps :
    Inv packetHere ∧ packetHere.turns = [] ∧ packetHere.fsm = .processHeader ∧
      packetHere.evq.length + 2 ≤ packetHere.params.fifoDepth ∧ packetHere.decAnswers ≠ [] :=
  ⟨packetHere_inv, by decide⟩
/-- The last byte of a stream, with an answer and room for what it may lead to. -/
def lastPacket : State :=
  { lastByteNext with srcEos := true, decAnswers := [.fail, .fail], params := { fifoDepth := 4 } }
theorem witness_EveryEndedStreamReachesDone :
    Inv lastPacket ∧ lastPacket.turns = [] ∧ lastPacket.fsm ≠ .idle ∧ lastPacket.srcEos = true ∧
      lastPacket.srcBytes.length + 1 ≤ lastPacket.decAnswers.length ∧
      lastPacket.evq.length + 2 * (lastPacket.srcBytes.length + 1) ≤ lastPacket.params.fifoDepth :=
  ⟨by constructor <;> decide, by decide⟩
/-- The 188 bytes of `PESPTS pid=49 sid=E0 pts=90000` (PRG-1, packet 4). -/
def pesptsBytes : List Byte :=
  [0x47, 0x40, 0x31, 0x10, 0x00, 0x00, 0x01, 0xE0, 0x00, 0x00, 0x80, 0x80, 0x05, 0x21, 0x00, 0x05, 0xBF, 0x21]
    ++ List.replicate 170 0xFF
theorem witness_PesptsLineEmitsItsTimestamp :
    (offering .seekSync pesptsBytes).buf.wf = true ∧ (offering .seekSync pesptsBytes).turns = [] ∧
      (0xE0 : Byte) ∉ (offering .seekSync pesptsBytes).params.excludedIds ∧
      (offering .seekSync pesptsBytes).evq.length < (offering .seekSync pesptsBytes).params.fifoDepth ∧
      lineBytes (offering .seekSync pesptsBytes).params (.pespts 49 0 0xE0 90000) = some pesptsBytes ∧
      (offering .seekSync pesptsBytes).srcBytes = pesptsBytes ++ [] :=
  ⟨rfl, rfl, by decide, by decide, rfl, by simp [offering]⟩

end Sys2Proof.Tests
end

/-! PROOFS. The PacketSynchronizer's operations in SEEK_SYNC (40_synchronizer.md): what the source port offers and
what taking it leaves, which operation each token selects, and what a selected operation writes. -/

namespace Sys2Proof.Machine

section Source

variable {s : State} {b : Byte} {rest : List Byte}

/-- Bytes are offered before EOS (R202). -/
theorem State.token_of_srcBytes_cons (hb : s.srcBytes = b :: rest) : s.token = some (.byte b) := by
  simp [State.token, hb]

/-- EOS is offered once the bytes are taken (R202). -/
theorem State.token_of_srcEos (hb : s.srcBytes = []) (he : s.srcEos = true) : s.token = some .eos := by
  simp [State.token, hb, he]

theorem State.srcRead_of_srcBytes_cons (hb : s.srcBytes = b :: rest) : s.srcRead = { s with srcBytes := rest } := by
  simp [State.srcRead, hb]

/-- EOS stays on the port (R202): taking it changes nothing. -/
theorem State.srcRead_of_srcBytes_nil (hb : s.srcBytes = []) : s.srcRead = s := by
  cases s
  simp_all [State.srcRead]

end Source

section SeekSync

variable {s : State} {b : Byte} {rest : List Byte}

theorem State.selected_syncEos (hf : s.fsm = .seekSync) (hb : s.srcBytes = []) (he : s.srcEos = true) :
    s.selected = some .syncEos := by
  rw [State.selected_seekSync hf, State.token_of_srcEos hb he]
  rfl

/-- In SEEK_SYNC an offered byte selects by SYNC_BYTE first and CFG_RESYNC next (R92). -/
theorem State.selected_seekSync_byte (hf : s.fsm = .seekSync) (hb : s.srcBytes = b :: rest) :
    s.selected = some (if b = s.params.syncByte then .syncAccept b
      else if s.cfgResync then .syncSkip b else .syncStop b) := by
  rw [State.selected_seekSync hf, State.token_of_srcBytes_cons hb]
  rfl

theorem State.selected_syncAccept (hf : s.fsm = .seekSync) (hb : s.srcBytes = b :: rest)
    (hm : b = s.params.syncByte) : s.selected = some (.syncAccept b) := by
  rw [State.selected_seekSync_byte hf hb, if_pos hm]

theorem State.selected_syncStop (hf : s.fsm = .seekSync) (hb : s.srcBytes = b :: rest)
    (hm : b ≠ s.params.syncByte) (hr : s.cfgResync = false) : s.selected = some (.syncStop b) := by
  rw [State.selected_seekSync_byte hf hb, if_neg hm, hr, if_neg Bool.false_ne_true]

theorem exec_syncEos_selected (h : s.selected = some .syncEos) :
    exec .syncEos s = .next (s.srcRead.terminate .endOfData) := by
  simp only [exec, execSyncEos, State.perform_selected h]

theorem exec_syncAccept_selected (h : s.selected = some (.syncAccept b)) :
    exec (.syncAccept b) s = .next ((s.srcRead.setPktCnt 0).goto .readPacket) := by
  simp only [exec, execSyncAccept, State.perform_selected h]

theorem exec_syncStop_selected (h : s.selected = some (.syncStop b)) :
    exec (.syncStop b) s = .next (s.srcRead.terminate .syncLoss) := by
  simp only [exec, execSyncStop, State.perform_selected h]

end SeekSync

/-- Settles O5: EOS selects SYNC_EOS, and taking it leaves the source port as it is. -/
theorem syncEosEndsStreamAtEndOfData : Obligations.SyncEosEndsStreamAtEndOfData := by
  intro s hf hb he
  rw [exec_syncEos_selected (State.selected_syncEos hf hb he), State.srcRead_of_srcBytes_nil hb]
  rfl

/-- Settles O6: the marker selects SYNC_ACCEPT, which takes it from the port and writes no buffer byte. -/
theorem syncAcceptEntersReadPacket : Obligations.SyncAcceptEntersReadPacket := by
  intro s b rest hf hb hm
  rw [exec_syncAccept_selected (State.selected_syncAccept hf hb hm), State.srcRead_of_srcBytes_cons hb]
  rfl

/-- Settles O7: with resynchronization off any other byte selects SYNC_STOP, which takes that one byte and ends the
stream. -/
theorem syncStopEndsStreamAtSyncLoss : Obligations.SyncStopEndsStreamAtSyncLoss := by
  intro s b rest hf hb hm hr
  rw [exec_syncStop_selected (State.selected_syncStop hf hb hm hr), State.srcRead_of_srcBytes_cons hb]
  rfl

end Sys2Proof.Machine

/-! PROOFS. The PacketHeaderParser's operation (41_header_parser.md): the header word's fields are the bits of
`P[0]`, `P[1]` and `P[2]`, and PROCESS_HEADER selects HDR_DECODE of them. -/

namespace Sys2Proof

theorem bitFlag_extract {n : Nat} (x : BitVec n) (i : Nat) : bitFlag (x.extractLsb' i 1) = x.getLsbD i := by
  simp [bitFlag]

/-- A field whose low bits are the whole lower part runs over the seam into the upper part. -/
theorem extract_append_seam {m l : Nat} (x : BitVec m) (y : BitVec l) (n : Nat) :
    (x ++ y).extractLsb' 0 (n + l) = x.extractLsb' 0 n ++ y := by
  have hx : (x ++ y).extractLsb' (0 + l) n = x.extractLsb' 0 n := by
    rw [extract_append_hi _ _ _ _ (by omega), Nat.add_sub_cancel]
  have hy : (x ++ y).extractLsb' 0 l = y := (extract_append_lo _ _ _ _ (by omega)).trans (extract_all y)
  rw [← extract_join, hx, hy]

/-- R82 and R83: the fields of the word `P[0] ++ P[1] ++ P[2]`, read from the bytes. -/
theorem Header.ofWord_bytes (p0 p1 p2 : Byte) :
    Header.ofWord (p0 ++ p1 ++ p2) =
      { tei := p0.getLsbD 7
        pusi := p0.getLsbD 6
        prio := p0.getLsbD 5
        pid := p0.extractLsb' 0 5 ++ p1
        tsc := p2.extractLsb' 6 2
        afc := p2.extractLsb' 4 2
        cc := p2.extractLsb' 0 4 } := by
  have hflag (i : Nat) (hi : 16 ≤ i) : (p0 ++ p1 ++ p2).getLsbD i = p0.getLsbD (i - 8 - 8) := by
    rw [BitVec.getLsbD_append, if_neg (by omega), BitVec.getLsbD_append, if_neg (by omega)]
  have hpid : (p0 ++ p1 ++ p2).extractLsb' 8 13 = p0.extractLsb' 0 5 ++ p1 :=
    (extract_append_hi _ _ _ _ (by omega)).trans (extract_append_seam p0 p1 5)
  have hlow (k n : Nat) (h : k + n ≤ 8) : (p0 ++ p1 ++ p2).extractLsb' k n = p2.extractLsb' k n :=
    extract_append_lo _ _ _ _ h
  simp only [Header.ofWord, bitFlag_extract, Header.mk.injEq]
  exact ⟨hflag 23 (by omega), hflag 22 (by omega), hflag 21 (by omega), hpid, hlow 6 2 (by omega),
    hlow 4 2 (by omega), hlow 0 4 (by omega)⟩

end Sys2Proof

namespace Sys2Proof.Machine

theorem Memory.ofWord_headerWord (m : Memory) : Header.ofWord m.headerWord = m.headerOfBytes :=
  Header.ofWord_bytes (m.read 0) (m.read 1) (m.read 2)

theorem exec_hdrDecode_selected {s : State} {h : Header} (hs : s.selected = some (.hdrDecode h)) :
    exec (.hdrDecode h) s = .next ((s.setHdr h).goto (afterHeader h.pusi)) := by
  simp only [exec, execHdrDecode, State.perform_selected hs]

/-- Settles O13: PROCESS_HEADER selects HDR_DECODE of the header word, whose fields are the bits of the three bytes. -/
theorem hdrDecodeWritesHeaderBits : Obligations.HdrDecodeWritesHeaderBits := by
  intro s hf
  have hs : s.selected = some (.hdrDecode s.buf.headerOfBytes) := by
    rw [State.selected_processHeader hf, Memory.ofWord_headerWord]
  rw [exec_hdrDecode_selected hs]
  rfl

end Sys2Proof.Machine

/-! PROOFS. The TimestampExtractor's outcomes without a timestamp (42_timestamp_extractor.md): the fields of the window
word are the byte expressions of R85, PROCESS_PES selects by these fields and the parameters alone, and whatever it
selects other than PES_PTS moves `FSM` and writes nothing else. -/

namespace Sys2Proof

/-- A field that runs over two neighbouring fields is the two side by side. -/
theorem extract_eq_append {w l n : Nat} {x : BitVec w} {hi : BitVec n} {lo : BitVec l} (k : Nat)
    (hhi : x.extractLsb' (k + l) n = hi) (hlo : x.extractLsb' k l = lo) : x.extractLsb' k (n + l) = hi ++ lo := by
  rw [← extract_join, hhi, hlo]

end Sys2Proof

namespace Sys2Proof.Machine

/-! ### The window word, byte by byte -/

section Window

variable (m : Memory)

/-- R84: `P[3 + j]` stands `8 * (13 - j)` bits up in the window word, so that a field within that byte is read from it
alone. -/
theorem Memory.pesWord_extract_in_byte (j k n : Nat) (hj : j < 14) (hk : k + n ≤ 8) :
    m.pesWord.extractLsb' (8 * (13 - j) + k) n = (m.read (3 + j)).extractLsb' k n := by
  interval_cases j <;> simp (disch := omega) only [Memory.pesWord, extract_append_lo, extract_append_hi]
  all_goals (congr 1; omega)

theorem Memory.pesWord_extract_byte (j : Nat) (hj : j < 14) :
    m.pesWord.extractLsb' (8 * (13 - j)) 8 = m.read (3 + j) :=
  (m.pesWord_extract_in_byte j 0 8 hj (by omega)).trans (extract_all _)

/-- R85: the fields of the word of R84, read from the bytes. A field over a byte boundary is joined from its parts. -/
theorem Memory.ofWord_pesWord : PesWindow.ofWord m.pesWord = m.windowOfBytes := by
  have whole := m.pesWord_extract_byte
  have part := m.pesWord_extract_in_byte
  have startCode : m.pesWord.extractLsb' 88 24 = m.read 3 ++ m.read 4 ++ m.read 5 :=
    extract_eq_append 88 (extract_eq_append 96 (whole 0 (by omega)) (whole 1 (by omega))) (whole 2 (by omega))
  have pesLength : m.pesWord.extractLsb' 64 16 = m.read 7 ++ m.read 8 :=
    extract_eq_append 64 (whole 4 (by omega)) (whole 5 (by omega))
  have skip14 : m.pesWord.extractLsb' 40 14 = (m.read 10).extractLsb' 0 6 ++ m.read 11 :=
    extract_eq_append 40 (part 7 0 6 (by omega) (by omega)) (whole 8 (by omega))
  have ptsMid : m.pesWord.extractLsb' 17 15 = m.read 13 ++ (m.read 14).extractLsb' 1 7 :=
    extract_eq_append 17 (whole 10 (by omega)) (part 11 1 7 (by omega) (by omega))
  have ptsLo : m.pesWord.extractLsb' 1 15 = m.read 15 ++ (m.read 16).extractLsb' 1 7 :=
    extract_eq_append 1 (whole 12 (by omega)) (part 13 1 7 (by omega) (by omega))
  simp only [PesWindow.ofWord, Memory.windowOfBytes, windowField, PesWindow.mk.injEq]
  exact ⟨startCode, whole 3 (by omega), pesLength,
    part 6 6 2 (by omega) (by omega), part 6 4 2 (by omega) (by omega), part 6 3 1 (by omega) (by omega),
    part 6 2 1 (by omega) (by omega), part 6 1 1 (by omega) (by omega), part 6 0 1 (by omega) (by omega),
    part 7 6 2 (by omega) (by omega), skip14,
    part 9 4 4 (by omega) (by omega), part 9 1 3 (by omega) (by omega), part 9 0 1 (by omega) (by omega),
    ptsMid, part 11 0 1 (by omega) (by omega), ptsLo, part 13 0 1 (by omega) (by omega)⟩

/-- The window word is a function of `P[3..16]` (R140). -/
theorem Memory.pesWord_congr {m m' : Memory} (h : ∀ a, 3 ≤ a → a ≤ 16 → m.read a = m'.read a) :
    m.pesWord = m'.pesWord := by
  simp [Memory.pesWord, h]

end Window

/-! ### What PROCESS_PES selects -/

section Select

variable {c : Context} {w : PesWindow}

/-- Of the context the rows of PROCESS_PES read the parameters alone (R92). -/
theorem decodePes_congr {c' : Context} (h : c.params = c'.params) (w : PesWindow) : decodePes c w = decodePes c' w := by
  unfold decodePes
  rw [h]

theorem decodePes_noPrefix (hp : w.startCode ≠ 1) : decodePes c w = .pesNoPrefix w := if_pos hp

/-- Past the start-code test the stream id decides next (R141). -/
theorem decodePes_excluded (hp : w.startCode = 1) (hx : w.streamId ∈ c.params.excludedIds) :
    decodePes c w = .pesExcluded w := by
  simp [decodePes, hp, hx]

theorem decodePes_noOpthdr (hp : w.startCode = 1) (hx : w.streamId ∉ c.params.excludedIds)
    (ho : w.optMarker ≠ 0b10#2) : decodePes c w = .pesNoOpthdr w := by
  simp [decodePes, hp, hx, ho]

theorem decodePes_noPts (hp : w.startCode = 1) (hx : w.streamId ∉ c.params.excludedIds)
    (ho : w.optMarker = 0b10#2) (hf : w.ptsFlags ≠ 0b10#2) : decodePes c w = .pesNoPts w := by
  simp [decodePes, hp, hx, ho, hf]

theorem decodePes_badTag (hp : w.startCode = 1) (hx : w.streamId ∉ c.params.excludedIds)
    (ho : w.optMarker = 0b10#2) (hf : w.ptsFlags = 0b10#2) (ht : w.ptsTag ≠ 2#4) :
    decodePes c w = .pesBadTag w := by
  simp [decodePes, hp, hx, ho, hf, ht]

/-- PROCESS_PES selects by the window's fields as R85 reads them from the bytes. -/
theorem State.selected_processPes_bytes {s : State} (hf : s.fsm = .processPes) :
    s.selected = some (decodePes s.context s.buf.windowOfBytes) := by
  rw [State.selected_processPes hf, Memory.ofWord_pesWord]

/-- Every outcome of PROCESS_PES but PES_PTS has the one meaning of an outcome without a timestamp (R149). -/
theorem exec_decodePes (h : ∀ v, decodePes c w ≠ .pesPts v) (s : State) :
    exec (decodePes c w) s = noTimestamp (decodePes c w) s := by
  unfold decodePes at h ⊢
  split_ifs at h ⊢
  case neg => exact absurd rfl (h w)
  all_goals rfl

end Select

theorem noTimestamp_selected {s : State} {i : Instr} (h : s.selected = some i) :
    noTimestamp i s = .next (s.goto .processCandidate) :=
  State.perform_selected h _

/-- Settles O25: what PROCESS_PES selects other than PES_PTS has one meaning, and that moves `FSM` alone. -/
theorem noTimestampOutcomeWritesFsmOnly : Obligations.NoTimestampOutcomeWritesFsmOnly := by
  intro s i hf hs hi
  obtain rfl : decodePes s.context s.buf.windowOfBytes = i :=
    Option.some.inj ((State.selected_processPes_bytes hf).symm.trans hs)
  rw [exec_decodePes hi, noTimestamp_selected hs]
  rfl

/-- Settles O27: the window word and the parameters are all that the selection reads, and the word is a function of
`P[3..16]`. -/
theorem pesOutcomeDependsOnWindowBytesOnly : Obligations.PesOutcomeDependsOnWindowBytesOnly := by
  intro s t hs ht hparams hbytes
  rw [State.selected_processPes hs, State.selected_processPes ht, Memory.pesWord_congr hbytes,
    decodePes_congr (c := s.context) (c' := t.context) hparams]

/-- The outcome that the window's bytes select moves `FSM` alone, PES_PTS apart. -/
theorem exec_of_decodePes_bytes {s : State} {i : Instr} (hf : s.fsm = .processPes)
    (hd : decodePes s.context s.buf.windowOfBytes = i) (hi : ∀ w, i ≠ .pesPts w) :
    exec i s = .next { s with fsm := .processCandidate } :=
  noTimestampOutcomeWritesFsmOnly s i hf (hd ▸ State.selected_processPes_bytes hf) hi

/-- Settles O18: a start code other than 1 selects PES_NO_PREFIX. -/
theorem pesNoPrefixGoesToCandidate : Obligations.PesNoPrefixGoesToCandidate :=
  fun _ hf hp => exec_of_decodePes_bytes hf (decodePes_noPrefix hp) nofun

/-- Settles O19: an excluded stream id selects PES_EXCLUDED, whatever the set of excluded ids. -/
theorem pesExcludedGoesToCandidate : Obligations.PesExcludedGoesToCandidate :=
  fun _ hf hp hx => exec_of_decodePes_bytes hf (decodePes_excluded hp hx) nofun

/-- Settles O20: a missing optional header selects PES_NO_OPTHDR. -/
theorem pesNoOpthdrGoesToCandidate : Obligations.PesNoOpthdrGoesToCandidate :=
  fun _ hf hp hx ho => exec_of_decodePes_bytes hf (decodePes_noOpthdr hp hx ho) nofun

/-- Settles O21: flags other than "PTS only" select PES_NO_PTS. -/
theorem pesNoPtsGoesToCandidate : Obligations.PesNoPtsGoesToCandidate :=
  fun _ hf hp hx ho hfl => exec_of_decodePes_bytes hf (decodePes_noPts hp hx ho hfl) nofun

/-- Settles O22: a wrong tag nibble selects PES_BAD_TAG. -/
theorem pesBadTagGoesToCandidate : Obligations.PesBadTagGoesToCandidate :=
  fun _ hf hp hx ho hfl ht => exec_of_decodePes_bytes hf (decodePes_badTag hp hx ho hfl ht) nofun

end Sys2Proof.Machine

/-! PROOFS. The CandidateFilter's skips (43_candidate_filter.md): the checks of R170 decide in their order on `P[4]`,
`HDR_PID` and `P[17]`, a check that holds counts and drops the packet, and so does the decoder's failure. -/

namespace Sys2Proof.Machine

/-! ### What PROCESS_CANDIDATE selects -/

section Candidate

variable {c : Context} {w : CandWindow}

/-- Check 1 decides before every other (R170). -/
theorem decodeCandidate_skipMarker (hm : w.marker ≠ 0xFC) : decodeCandidate c w = .candSkipMarker w := if_pos hm

/-- Past checks 1 and 2 the lock decides next (R170). -/
theorem decodeCandidate_skipPidlock (hm : w.marker = 0xFC) (hr : w.pid ≠ 101) (hl : c.pidLocked w.pid = true) :
    decodeCandidate c w = .candSkipPidlock w :=
  (if_neg (not_not_intro hm)).trans ((if_neg hr).trans (if_pos hl))

/-- R173's condition: a PID is locked, and it is not this one. -/
theorem Context.pidLocked_iff (pid : Pid) : c.pidLocked pid = true ↔ c.lockValid = true ∧ pid ≠ c.lockPid := by
  simp [Context.pidLocked]

end Candidate

/-! ### What the selected operations write -/

section Effects

variable {s : State} {w : CandWindow}

theorem exec_candSkipMarker_selected (h : s.selected = some (.candSkipMarker w)) :
    exec (.candSkipMarker w) s = .next (s.skip .skipMarker) := by
  simp only [exec, execCandSkipMarker, State.perform_selected h]

theorem exec_candSkipPidlock_selected (h : s.selected = some (.candSkipPidlock w)) :
    exec (.candSkipPidlock w) s = .next (s.skip .skipPidlock) := by
  simp only [exec, execCandSkipPidlock, State.perform_selected h]

theorem exec_decFail_selected (h : s.selected = some .decFail) :
    exec .decFail s = .next ((s.decResponse.count .decFail).goto .seekSync) := by
  simp only [exec, execDecFail, State.perform_selected h]

end Effects

/-! ### The decoder's port in WAIT_DECODER -/

section Response

variable {s : State} {span : List Byte} {r : Response} {rest : List Response}

/-- The first answer is what an outstanding request is offered (R203). -/
theorem State.response_of_decAnswers_cons (hq : s.decReq = some span) (ha : s.decAnswers = r :: rest) :
    s.response = some r := by
  simp [State.response, hq, ha]

/-- Taking the answer leaves those after it, and no request (R203). -/
theorem State.decResponse_of_decAnswers_cons (ha : s.decAnswers = r :: rest) :
    s.decResponse = { s with decReq := none, decAnswers := rest } := by
  simp [State.decResponse, ha]

/-- The answer offered selects the operation (R92). -/
theorem State.selected_waitDecoder_response (hf : s.fsm = .waitDecoder) (hq : s.decReq = some span)
    (ha : s.decAnswers = r :: rest) : s.selected = some (decodeResponse r) := by
  rw [State.selected_waitDecoder hf, State.response_of_decAnswers_cons hq ha]
  rfl

end Response

/-- Settles O29: another value of `P[4]` selects CAND_SKIP_MARKER, whatever the PID, the lock and `P[17]`. -/
theorem candSkipMarkerSkips : Obligations.CandSkipMarkerSkips := by
  intro s hf hm
  have hs : s.selected = some (.candSkipMarker s.candWindow) := by
    rw [State.selected_processCandidate hf, decodeCandidate_skipMarker hm]
  exact exec_candSkipMarker_selected hs

/-- Settles O31: past checks 1 and 2 a PID other than the locked one selects CAND_SKIP_PIDLOCK. -/
theorem candSkipPidlockSkips : Obligations.CandSkipPidlockSkips := by
  intro s hf hm hr hv hp
  have hl : s.context.pidLocked s.candWindow.pid = true := (Context.pidLocked_iff _).mpr ⟨hv, hp⟩
  have hs : s.selected = some (.candSkipPidlock s.candWindow) := by
    rw [State.selected_processCandidate hf, decodeCandidate_skipPidlock hm hr hl]
  exact exec_candSkipPidlock_selected hs

/-- Settles O35: the failure offered selects DEC_FAIL, which takes it from the port, counts it and ends the packet. -/
theorem decFailSkipsThePacket : Obligations.DecFailSkipsThePacket := by
  intro s span rest hf hq ha
  rw [exec_decFail_selected (State.selected_waitDecoder_response hf hq ha), State.decResponse_of_decAnswers_cons ha]
  rfl

end Sys2Proof.Machine

/-! PROOFS. The decoder and the encoder agree (30_encoding.md, sections 1 and 3): for each state the rows of R92 are
taken once, from the operation to the word and from the word to the operation, and both directions of the agreement,
and R93's totality and exclusiveness, follow. -/

namespace Sys2Proof

/-- The conditions that the row of `i` in R92 puts on the input word and the context are met by `w` and `c`. -/
def Instr.Reads (c : Context) (w : InputWord) (i : Instr) : Prop :=
  i.wellFormed c.params = true ∧ i.enabledIn c = true ∧ encode i = w

/-- The state column of R92; of START's two states the first. -/
def Instr.state : Instr → Fsm
  | .start _ _ _ => .idle
  | .syncEos | .syncAccept _ | .syncStop _ | .syncSkip _ => .seekSync
  | .pktTrunc | .pktByte _ => .readPacket
  | .hdrDecode _ => .processHeader
  | .pesNoPrefix _ | .pesExcluded _ | .pesNoOpthdr _ | .pesNoPts _ | .pesBadTag _ | .pesPts _ => .processPes
  | .candSkipMarker _ | .candSkipReserved _ | .candSkipPidlock _ | .candSkipNull _ | .candIssue _ =>
      .processCandidate
  | .decOk _ | .decFail => .waitDecoder

/-- An operation other than START is enabled in the state of its row alone. -/
theorem Instr.fsm_of_enabledIn {c : Context} {i : Instr} (hi : ∀ n p r, i ≠ .start n p r)
    (h : i.enabledIn c = true) : c.fsm = i.state := by
  cases i
  case start n p r => exact absurd rfl (hi n p r)
  all_goals
    simp only [Instr.enabledIn, Bool.and_eq_true, decide_eq_true_eq] at h
    simp only [h, Instr.state]

@[simp] theorem PesWindow.hasStartCode_iff (w : PesWindow) : w.hasStartCode = true ↔ w.startCode = 1 := by
  simp [PesWindow.hasStartCode]

@[simp] theorem PesWindow.admitted_iff (w : PesWindow) (p : Params) :
    w.admitted p = true ↔ w.startCode = 1 ∧ w.streamId ∉ p.excludedIds := by
  simp [PesWindow.admitted]

end Sys2Proof

namespace Sys2Proof.Machine

section Words

variable {c : Context}

/-! ### What each state reads from the word of its format -/

theorem decode_seekSync (hf : c.fsm = .seekSync) (t : BitVec 9) :
    decode c (.src t) = .ok (decodeSeekSync c (Token.ofWord t)) := by
  simp [decode, hf]

theorem decode_readPacket (hf : c.fsm = .readPacket) (t : BitVec 9) :
    decode c (.src t) = .ok (decodeReadPacket (Token.ofWord t)) := by
  simp [decode, hf]

theorem decode_pes (hf : c.fsm = .processPes) (w : PesWindow) : decode c (.pesw w.toWord) = .ok (decodePes c w) := by
  simp [decode, hf]

theorem decode_candidate (hf : c.fsm = .processCandidate) (w : CandWindow) :
    decode c (.candw w.toWord) = .ok (decodeCandidate c w) := by
  simp [decode, hf]

/-! ### The rows that the earlier parts did not need -/

theorem decodeSeekSync_accept {b : Byte} (hb : b = c.params.syncByte) :
    decodeSeekSync c (.byte b) = .syncAccept b := if_pos hb

theorem decodeSeekSync_skip {b : Byte} (hb : b ≠ c.params.syncByte) (hr : c.resync = true) :
    decodeSeekSync c (.byte b) = .syncSkip b := by
  simp [decodeSeekSync, hb, hr]

theorem decodeSeekSync_stop {b : Byte} (hb : b ≠ c.params.syncByte) (hr : c.resync = false) :
    decodeSeekSync c (.byte b) = .syncStop b := by
  simp [decodeSeekSync, hb, hr]

theorem decodePes_pts {w : PesWindow} (hp : w.startCode = 1) (hx : w.streamId ∉ c.params.excludedIds)
    (ho : w.optMarker = 0b10#2) (hf : w.ptsFlags = 0b10#2) (ht : w.ptsTag = 2#4) : decodePes c w = .pesPts w := by
  simp [decodePes, hp, hx, ho, hf, ht]

/-- Past check 1 the reserved PID decides next (R170). -/
theorem decodeCandidate_skipReserved {w : CandWindow} (hm : w.marker = 0xFC) (hr : w.pid = 101) :
    decodeCandidate c w = .candSkipReserved w := by
  simp [decodeCandidate, hm, hr]

/-- Past checks 1 to 3 the null byte decides (R170). -/
theorem decodeCandidate_skipNull {w : CandWindow} (hm : w.marker = 0xFC) (hr : w.pid ≠ 101)
    (hl : c.pidLocked w.pid = false) (hn : c.showNull = false) (h0 : w.nullByte = 0) :
    decodeCandidate c w = .candSkipNull w := by
  simp [decodeCandidate, hm, show ¬ w.pid = 101#13 from hr, hl, hn, h0]

theorem decodeCandidate_issue {w : CandWindow} (hm : w.marker = 0xFC) (hr : w.pid ≠ 101)
    (hl : c.pidLocked w.pid = false) (hn : c.showNull = false → w.nullByte ≠ 0) :
    decodeCandidate c w = .candIssue w := by
  cases hs : c.showNull <;> simp_all [decodeCandidate]

/-- The null check of R174 fails. -/
theorem nullCheck_eq_false_iff (n : Bool) (b : Byte) : (!n && decide (b = 0)) = false ↔ (n = false → b ≠ 0) := by
  cases n <;> simp

end Words

/-- Settles O48: each row's conditions leave the decoder's tests one way to go. -/
theorem decodeReadsBackEveryEncoding : Obligations.DecodeReadsBackEveryEncoding := by
  intro c i hw he
  cases i <;> simp only [Instr.wellFormed, Instr.enabledIn, PesWindow.hasStartCode_iff, PesWindow.admitted_iff,
    nullCheck_eq_false_iff, Bool.and_eq_true, Bool.not_eq_true', decide_eq_true_eq] at hw he
  case start => rfl
  case syncEos => simp [encode, decode_seekSync he, decodeSeekSync]
  case syncAccept b => simp [encode, decode_seekSync he, decodeSeekSync_accept hw]
  case syncStop b =>
    obtain ⟨hf, hr⟩ := he
    simp [encode, decode_seekSync hf, decodeSeekSync_stop hw hr]
  case syncSkip b =>
    obtain ⟨hf, hr⟩ := he
    simp [encode, decode_seekSync hf, decodeSeekSync_skip hw hr]
  case pktTrunc => simp [encode, decode_readPacket he, decodeReadPacket]
  case pktByte b => simp [encode, decode_readPacket he, decodeReadPacket]
  case hdrDecode h => simp [encode, decode, he]
  case pesNoPrefix w =>
    have hp : w.startCode ≠ 1 := by simpa [PesWindow.hasStartCode] using hw
    exact (decode_pes he w).trans (congrArg _ (decodePes_noPrefix hp))
  case pesExcluded w =>
    obtain ⟨hp, hx⟩ := hw
    exact (decode_pes he w).trans (congrArg _ (decodePes_excluded hp hx))
  case pesNoOpthdr w =>
    obtain ⟨⟨hp, hx⟩, ho⟩ := hw
    exact (decode_pes he w).trans (congrArg _ (decodePes_noOpthdr hp hx ho))
  case pesNoPts w =>
    obtain ⟨⟨⟨hp, hx⟩, ho⟩, hf⟩ := hw
    exact (decode_pes he w).trans (congrArg _ (decodePes_noPts hp hx ho hf))
  case pesBadTag w =>
    obtain ⟨⟨⟨⟨hp, hx⟩, ho⟩, hf⟩, ht⟩ := hw
    exact (decode_pes he w).trans (congrArg _ (decodePes_badTag hp hx ho hf ht))
  case pesPts w =>
    obtain ⟨⟨⟨⟨hp, hx⟩, ho⟩, hf⟩, ht⟩ := hw
    exact (decode_pes he w).trans (congrArg _ (decodePes_pts hp hx ho hf ht))
  case candSkipMarker w => exact (decode_candidate he w).trans (congrArg _ (decodeCandidate_skipMarker hw))
  case candSkipReserved w =>
    obtain ⟨hm, hr⟩ := hw
    exact (decode_candidate he w).trans (congrArg _ (decodeCandidate_skipReserved hm hr))
  case candSkipPidlock w =>
    obtain ⟨hm, hr⟩ := hw
    obtain ⟨hf, hl⟩ := he
    exact (decode_candidate hf w).trans (congrArg _ (decodeCandidate_skipPidlock hm hr hl))
  case candSkipNull w =>
    obtain ⟨⟨hm, hr⟩, h0⟩ := hw
    obtain ⟨⟨hf, hl⟩, hn⟩ := he
    exact (decode_candidate hf w).trans (congrArg _ (decodeCandidate_skipNull hm hr hl hn h0))
  case candIssue w =>
    obtain ⟨hm, hr⟩ := hw
    obtain ⟨⟨hf, hl⟩, hn⟩ := he
    exact (decode_candidate hf w).trans (congrArg _ (decodeCandidate_issue hm hr hl hn))
  case decOk x => simp [encode, Response.toWord, decode, he]
  case decFail => simp [encode, Response.toWord, decode, he]

section Rows

variable {c : Context}

/-! ### What a state reads meets the row's conditions -/

theorem decodeSeekSync_reads (hf : c.fsm = .seekSync) (t : Token) :
    (decodeSeekSync c t).Reads c (.src t.toWord) := by
  cases t with
  | eos => simp [decodeSeekSync, Instr.Reads, Instr.wellFormed, Instr.enabledIn, encode, hf]
  | byte b =>
    unfold decodeSeekSync
    dsimp only
    split_ifs <;> simp [Instr.Reads, Instr.wellFormed, Instr.enabledIn, encode, *]

theorem decodeReadPacket_reads (hf : c.fsm = .readPacket) (t : Token) :
    (decodeReadPacket t).Reads c (.src t.toWord) := by
  cases t <;> simp [decodeReadPacket, Instr.Reads, Instr.wellFormed, Instr.enabledIn, encode, hf]

theorem hdrDecode_reads (hf : c.fsm = .processHeader) (h : BitVec 24) :
    (Instr.hdrDecode (Header.ofWord h)).Reads c (.tsh h) := by
  simp [Instr.Reads, Instr.wellFormed, Instr.enabledIn, encode, hf]

theorem decodePes_reads (hf : c.fsm = .processPes) (w : PesWindow) : (decodePes c w).Reads c (.pesw w.toWord) := by
  unfold decodePes
  split_ifs <;> simp_all [Instr.Reads, Instr.wellFormed, Instr.enabledIn, encode, PesWindow.hasStartCode]

theorem decodeCandidate_reads (hf : c.fsm = .processCandidate) (w : CandWindow) :
    (decodeCandidate c w).Reads c (.candw w.toWord) := by
  unfold decodeCandidate
  split_ifs <;> simp_all [Instr.Reads, Instr.wellFormed, Instr.enabledIn, encode, or_iff_not_imp_left]

theorem decOk_reads (hf : c.fsm = .waitDecoder) (x : Section) : (Instr.decOk x).Reads c (.decr 1 x) := by
  simp [Instr.Reads, Instr.wellFormed, Instr.enabledIn, encode, Response.toWord, hf]

theorem decFail_reads (hf : c.fsm = .waitDecoder) : Instr.decFail.Reads c (.decr 0 Section.first) := by
  simp [Instr.Reads, Instr.wellFormed, Instr.enabledIn, encode, Response.toWord, hf]

/-- A HOST word apart, what the decoder reads from a canonical word meets its row's conditions. -/
theorem decode_reads {w : InputWord} {i : Instr} (hw : w.canonical = true) (hd : decode c w = .ok i)
    (hh : ∀ st cfg, w ≠ .host st cfg) : i.Reads c w := by
  cases w with
  | host st cfg => exact absurd rfl (hh st cfg)
  | src t =>
    have hword := Token.toWord_ofWord t hw
    cases hf : c.fsm
    case seekSync =>
      obtain rfl := Except.ok.inj ((decode_seekSync hf t).symm.trans hd)
      simpa only [hword] using decodeSeekSync_reads hf (Token.ofWord t)
    case readPacket =>
      obtain rfl := Except.ok.inj ((decode_readPacket hf t).symm.trans hd)
      simpa only [hword] using decodeReadPacket_reads hf (Token.ofWord t)
    all_goals simp [decode, hf] at hd
  | tsh h =>
    by_cases hf : c.fsm = .processHeader
    · obtain rfl : Instr.hdrDecode (Header.ofWord h) = i := by simpa [decode, hf] using hd
      exact hdrDecode_reads hf h
    · simp [decode, hf] at hd
  | pesw w =>
    by_cases hf : c.fsm = .processPes
    · obtain rfl : decodePes c (PesWindow.ofWord w) = i := by simpa [decode, hf] using hd
      simpa using decodePes_reads hf (PesWindow.ofWord w)
    · simp [decode, hf] at hd
  | candw w =>
    by_cases hf : c.fsm = .processCandidate
    · obtain rfl : decodeCandidate c (CandWindow.ofWord w) = i := by simpa [decode, hf] using hd
      simpa using decodeCandidate_reads hf (CandWindow.ofWord w)
    · simp [decode, hf] at hd
  | decr tag x =>
    by_cases hf : c.fsm = .waitDecoder
    · obtain rfl : (if tag = 1 then .decOk x else .decFail) = i := by simpa [decode, hf] using hd
      split_ifs with ht
      · exact ht ▸ decOk_reads hf x
      · have hx : tag = 1 ∨ x = Section.first := by simpa [InputWord.canonical] using hw
        obtain rfl := hx.resolve_left ht
        obtain rfl : tag = 0 := by bv_omega
        exact decFail_reads hf
    · simp [decode, hf] at hd

end Rows

/-- Settles O49: a HOST word carries START's own operands; every other canonical word meets the conditions of the row
it selects, of which carrying the word is one. -/
theorem encodeWritesBackEveryDecoding : Obligations.EncodeWritesBackEveryDecoding := by
  intro c w i hw hd
  by_cases hh : ∃ st cfg, w = .host st cfg
  · obtain ⟨st, cfg, rfl⟩ := hh
    obtain rfl : st = 1 := by simpa [InputWord.canonical] using hw
    obtain rfl : Instr.start cfg.showNull cfg.pidFilter cfg.resync = i := by simpa [decode] using hd
    rfl
  · push Not at hh
    obtain ⟨-, -, he⟩ := decode_reads hw hd hh
    exact he

section Input

variable {s : State} {w : InputWord} {i : Instr}

/-- The block's own input is never a HOST word, and has no bit without a meaning. -/
theorem State.inputWord_canonical (h : s.inputWord = some w) : w.canonical = true ∧ ∀ st cfg, w ≠ .host st cfg := by
  unfold State.inputWord at h
  split at h
  case h_2 | h_3 =>
    obtain ⟨t, -, rfl⟩ := Option.map_eq_some_iff.mp h
    exact ⟨by cases t <;> [exact Laws.EncodesCanonically.byte_canonical _; rfl], nofun⟩
  case h_7 =>
    obtain ⟨r, -, rfl⟩ := Option.map_eq_some_iff.mp h
    cases r <;> exact ⟨rfl, nofun⟩
  case h_1 | h_8 => cases h
  all_goals
    cases h
    exact ⟨rfl, nofun⟩

/-- Whatever input a state has, it selects an operation by it (R93). -/
theorem State.decode_inputWord (h : s.inputWord = some w) : ∃ i, decode s.context w = .ok i := by
  unfold State.inputWord at h
  split at h
  all_goals rename_i hf
  case h_2 =>
    obtain ⟨t, -, rfl⟩ := Option.map_eq_some_iff.mp h
    exact ⟨_, decode_seekSync hf _⟩
  case h_3 =>
    obtain ⟨t, -, rfl⟩ := Option.map_eq_some_iff.mp h
    exact ⟨_, decode_readPacket hf _⟩
  case h_7 =>
    obtain ⟨r, -, rfl⟩ := Option.map_eq_some_iff.mp h
    cases r <;> exact ⟨_, if_pos hf⟩
  case h_1 | h_8 => cases h
  all_goals
    cases h
    exact ⟨_, if_pos hf⟩

/-- An operation is selected where the decoder reads it from the state's input (R92). -/
theorem State.selected_eq_some_iff :
    s.selected = some i ↔ ∃ w, s.inputWord = some w ∧ decode s.context w = .ok i := by
  unfold State.selected
  cases s.inputWord with
  | none => simp
  | some w => cases hd : decode s.context w <;> simp [hd, Except.toOption]

/-- What is selected meets the conditions of its row (R92). -/
theorem State.selected_reads (h : s.selected = some i) : ∃ w, s.inputWord = some w ∧ i.Reads s.context w := by
  obtain ⟨w, hw, hd⟩ := State.selected_eq_some_iff.mp h
  obtain ⟨hcan, hhost⟩ := State.inputWord_canonical hw
  exact ⟨w, hw, decode_reads hcan hd hhost⟩

/-- What is selected is an operation of the state's own rows (R92). -/
theorem State.fsm_of_selected (h : s.selected = some i) : s.fsm = i.state := by
  obtain ⟨w, -, -, he, -⟩ := State.selected_reads h
  exact Instr.fsm_of_enabledIn (fun n p r hi => s.selected_ne_start n p r (hi ▸ h)) he

end Input

/-- Settles O47: the decoder answers on every input; what it reads meets its row's conditions, and an operation that
meets them is what the decoder reads. -/
theorem selectionIsTotalAndExclusive : Obligations.SelectionIsTotalAndExclusive := by
  refine ⟨fun s w hw => ?_, fun s h => ?_⟩
  · obtain ⟨i, hd⟩ := State.decode_inputWord hw
    obtain ⟨hcan, hhost⟩ := State.inputWord_canonical hw
    refine ⟨i, State.selected_eq_some_iff.mpr ⟨w, hw, hd⟩, fun j => ⟨fun ⟨hwf, hen, henc⟩ => ?_, ?_⟩⟩
    · have hj : decode s.context w = .ok j := henc ▸ decodeReadsBackEveryEncoding s.context j hwf hen
      exact Except.ok.inj (hj.symm.trans hd)
    · rintro rfl
      exact decode_reads hcan hd hhost
  · cases hf : s.fsm <;> simp [State.inputWord, hf] at h <;> simp [h]

end Sys2Proof.Machine

/-! PROOFS. What a selected operation does, in the direction that the laws of `exec` leave open: it takes its effect, or
it waits for room in `EVQ`, or its byte has no offset in the buffer. Then what each effect leaves unchanged, and when
two states take the same block step. -/

namespace Sys2Proof

/-- The operations that emit an event, which wait while `EVQ` is full (R151, R204). -/
def Instr.emits : Instr → Bool
  | .pesPts _ => true
  | .decOk _ => true
  | _ => false

end Sys2Proof

namespace Sys2Proof.Machine

section Exec

variable {s t : State} {i : Instr}

/-- An operation other than START that the state does not select leaves it as it is (R200; log 12). -/
theorem exec_unselected (hi : ∀ n p r, i ≠ .start n p r) (hs : s.selected ≠ some i) : exec i s = .next s := by
  cases i
  case start n p r => exact absurd rfl (hi n p r)
  all_goals exact if_neg hs

/-- An emitting operation holds while `EVQ` is full, selected or not (R151, R204). -/
theorem exec_no_room (hi : i.emits = true) (hroom : s.hasRoom = false) : exec i s = .next s := by
  by_cases hs : s.selected = some i
  · cases i
    case pesPts w => simp [exec, execPesPts, State.perform_selected hs, State.whenRoom, hroom]
    case decOk x => simp [exec, execDecOk, State.perform_selected hs, State.whenRoom, hroom]
    all_goals cases hi
  · exact exec_unselected (fun n p r h => by subst h; cases hi) hs

/-- A selected operation takes its effect. -/
theorem exec_effect (hs : s.selected = some i) (he : Effect s i t) : exec i s = .next t := by
  cases he
  case lastByte b hoff hlast =>
    simp only [exec, execPktByte, State.perform_selected hs, State.storeByte, if_pos hoff, afterByte]
    exact congrArg _ (if_pos hlast)
  case pktByte b hoff hlast =>
    simp only [exec, execPktByte, State.perform_selected hs, State.storeByte, if_pos hoff, afterByte]
    exact congrArg _ (if_neg hlast)
  case pesPts w hroom => simp [exec, execPesPts, State.perform_selected hs, State.whenRoom, hroom]
  case decOk x hroom => simp [exec, execDecOk, State.perform_selected hs, State.whenRoom, hroom]
  all_goals exact if_pos hs

/-- All that a selected operation can do. -/
theorem exec_selected_cases (hs : s.selected = some i) :
    (∃ t, Effect s i t ∧ exec i s = .next t) ∨ (s.hasRoom = false ∧ i.emits = true ∧ exec i s = .next s) ∨
      (∃ b, i = .pktByte b ∧ Config.bufLen ≤ s.pktCnt.toNat) := by
  have effect {t : State} (he : Effect s i t) : ∃ t, Effect s i t ∧ exec i s = .next t := ⟨t, he, exec_effect hs he⟩
  cases i
  case start n p r => exact absurd hs (s.selected_ne_start n p r)
  case pktByte b =>
    by_cases hoff : s.pktCnt.toNat < Config.bufLen
    · by_cases hlast : s.pktCnt + 1 = 187
      · exact .inl (effect (.lastByte b hoff hlast))
      · exact .inl (effect (.pktByte b hoff hlast))
    · exact .inr (.inr ⟨b, rfl, Nat.le_of_not_lt hoff⟩)
  case pesPts w =>
    cases hroom : s.hasRoom with
    | true => exact .inl (effect (.pesPts w hroom))
    | false => exact .inr (.inl ⟨rfl, rfl, exec_no_room rfl hroom⟩)
  case decOk x =>
    cases hroom : s.hasRoom with
    | true => exact .inl (effect (.decOk x hroom))
    | false => exact .inr (.inl ⟨rfl, rfl, exec_no_room rfl hroom⟩)
  all_goals exact .inl (effect (by constructor))

/-! ### When the block holds -/

/-- The block holds: nothing is selected, or what is selected waits for room (R117, R151, R204). -/
def State.Holds (s : State) : Prop :=
  s.selected = none ∨ (s.hasRoom = false ∧ ∃ i, s.selected = some i ∧ i.emits = true)

theorem blockStep_holds (h : s.Holds) : blockStep s = .next s := by
  rcases h with h | ⟨hroom, i, hs, hi⟩
  · exact blockStep_none h
  · rw [blockStep_selected hs, exec_no_room hi hroom]

theorem blockStep_effect (hs : s.selected = some i) (he : Effect s i t) : blockStep s = .next t := by
  rw [blockStep_selected hs, exec_effect hs he]

/-- A block step that answers holds, or is the selected operation's effect. -/
theorem blockStep_holds_or_effect (h : blockStep s = .next t) :
    (s.Holds ∧ t = s) ∨ ∃ i, s.selected = some i ∧ Effect s i t := by
  cases hs : s.selected with
  | none =>
    rw [blockStep_none hs] at h
    cases h
    exact .inl ⟨.inl hs, rfl⟩
  | some i =>
    rw [blockStep_selected hs] at h
    rcases exec_selected_cases hs with ⟨u, he, hu⟩ | ⟨hroom, hi, hu⟩ | ⟨b, rfl, hoff⟩
    · cases hu.symm.trans h
      exact .inr ⟨i, rfl, he⟩
    · cases hu.symm.trans h
      exact .inl ⟨.inr ⟨hroom, i, hs, hi⟩, rfl⟩
    · simp [exec, execPktByte, State.perform_selected hs, State.storeByte, Nat.not_lt.mpr hoff] at h

/-- Two states take related block steps, if they select the same operation, hold together, and take related effects. -/
theorem blockStep_related {R : State → State → Prop} {s' : State} (hR : R s s')
    (hsel : s'.selected = s.selected) (hhold : s.Holds → s'.Holds)
    (heff : ∀ {i t}, s.selected = some i → Effect s i t → ∃ t', Effect s' i t' ∧ R t t')
    (h : blockStep s = .next t) : ∃ t', blockStep s' = .next t' ∧ R t t' := by
  rcases blockStep_holds_or_effect h with ⟨hh, rfl⟩ | ⟨i, hs, he⟩
  · exact ⟨s', blockStep_holds (hhold hh), hR⟩
  · obtain ⟨t', he', hR'⟩ := heff hs he
    exact ⟨t', blockStep_effect (hsel.trans hs) he', hR'⟩

/-- Holding reads the selection and the room in `EVQ` alone. -/
theorem State.Holds.congr {s' : State} (hsel : s'.selected = s.selected) (hroom : s'.hasRoom = s.hasRoom) :
    s.Holds → s'.Holds := by
  unfold State.Holds
  rw [hsel, hroom]
  exact id

end Exec

/-- A step by what it writes: an effective START, the sink's move, an effect of the block, or nothing but the ports, the
host's side and the schedule. -/
theorem step_kinds {s t : State} (h : step s = .next t) :
    (∃ rest, s.turns = .host .start :: rest ∧ s.startEnabled = true ∧
      t = State.openStream { s with turns := rest } s.hostIn) ∨
    (∃ rest, t = State.sinkRemoves { s with turns := rest }) ∨
    (∃ i rest, s.selected = some i ∧ Effect { s with turns := rest } i t) ∨
    ∃ hostIn srcBytes srcEos decAnswers hostSeen hostRefused turns,
      t = { s with hostIn, srcBytes, srcEos, decAnswers, hostSeen, hostRefused, turns } := by
  rcases step_cases h with ⟨rest, -, hb⟩ | ⟨k, rest, -, rfl⟩ | ⟨r, rest, -, rfl⟩ | ⟨rest, -, rfl⟩ |
    ⟨c, rest, -, rfl⟩ | ⟨rest, -, rfl⟩ | ⟨rest, ht, hen, rfl⟩ | ⟨rest, -, -, rfl⟩ | ⟨r, rest, -, -, rfl⟩
  · rcases blockStep_cases hb with rfl | ⟨i, hs, he⟩
    · exact .inr (.inr (.inr ⟨_, _, _, _, _, _, _, rfl⟩))
    · exact .inr (.inr (.inl ⟨i, rest, hs, he⟩))
  · exact .inr (.inr (.inr ⟨_, _, _, _, _, _, _, State.sourceOffers_eq _ _⟩))
  · exact .inr (.inr (.inr ⟨_, _, _, _, _, _, _, State.decoderAnswers_eq _ _⟩))
  · exact .inr (.inl ⟨rest, rfl⟩)
  · exact .inr (.inr (.inr ⟨_, _, _, _, _, _, _, rfl⟩))
  · rcases State.hostConnects_cases { s with turns := rest } with ⟨-, e⟩ | ⟨-, e⟩
    · exact .inr (.inr (.inr ⟨_, _, _, _, _, _, _, e⟩))
    · exact .inr (.inr (.inr ⟨_, _, _, _, _, _, _, e⟩))
  · exact .inl ⟨rest, ht, hen, rfl⟩
  · exact .inr (.inr (.inr ⟨_, _, _, _, _, _, _, rfl⟩))
  · exact .inr (.inr (.inr ⟨_, _, _, _, _, _, _, rfl⟩))

/-- The sink's move writes `EVQ` and the record of what it removed, and no event is lost between the two. -/
theorem State.sinkRemoves_eq (s : State) :
    ∃ q seen, s.sinkRemoves = { s with evq := q, sinkSeen := seen } ∧ seen ++ q = s.sinkSeen ++ s.evq := by
  rcases s.sinkRemoves_cases with ⟨-, e⟩ | ⟨x, rest, hq, e⟩
  · exact ⟨s.evq, s.sinkSeen, e, rfl⟩
  · exact ⟨rest, s.sinkSeen ++ [x], e, by simp [hq]⟩

/-! ### What an effect leaves unchanged -/

namespace Effect

variable {s t : State} {i : Instr}

/-- No operation but START writes a configuration register (R23). -/
theorem cfg (h : Effect s i t) :
    t.cfgShowNull = s.cfgShowNull ∧ t.cfgResync = s.cfgResync ∧ t.cfgPidFilterEn = s.cfgPidFilterEn ∧
      t.cfgPidFilter = s.cfgPidFilter := by
  cases h <;> simp

/-- No operation writes a parameter (R12), the schedule, what the sink has removed, or the source's EOS (R202). -/
theorem frame (h : Effect s i t) : t.params = s.params ∧ t.turns = s.turns ∧ t.sinkSeen = s.sinkSeen ∧
    t.srcEos = s.srcEos := by
  cases h <;> simp

/-- A lock that stands is never replaced (R176). -/
theorem lock (h : Effect s i t) (hv : s.lockValid = true) : t.lockValid = true ∧ t.lockPid = s.lockPid := by
  cases h
  case decOk x hroom => exact ⟨rfl, if_pos hv⟩
  all_goals exact ⟨hv, rfl⟩

/-- CAND_ISSUE alone makes a decoder request (R175). -/
theorem request (h : Effect s i t) (hs : s.decReq = none) (ht : t.decReq ≠ none) :
    ∃ c, i = .candIssue c ∧ t.decReq = some s.buf.candSpan := by
  cases h
  case candIssue c => exact ⟨c, rfl, rfl⟩
  case decOk => exact absurd rfl ht
  case decFail => exact absurd rfl ht
  all_goals exact absurd hs ht

/-- PES_PTS and DEC_OK alone emit, each one event at the tail, and only where there is room (R204). -/
theorem evq (h : Effect s i t) : t.evq = s.evq ∨
    (s.hasRoom = true ∧
      ((∃ w, i = .pesPts w ∧ t.evq = s.evq ++ [.ts (rawTicks w)]) ∨
        ∃ x, i = .decOk x ∧ t.evq = s.evq ++ [.sec x])) := by
  cases h
  case pesPts w hroom => exact .inr ⟨hroom, .inl ⟨w, rfl, rfl⟩⟩
  case decOk x hroom => exact .inr ⟨hroom, .inr ⟨x, rfl, rfl⟩⟩
  all_goals exact .inl rfl

end Effect

end Sys2Proof.Machine

/-! PROOFS. The invariant of Safety.lean (10_state.md sections 2 and 5): for each move of the block what it needs of the
state it starts from, and then every step of every agent. A field that a move does not touch is the old one's. -/

namespace Sys2Proof.Machine

/-- Settles O55: every clause reads a value of `State.reset`; the FIFO's depth is one more than an unknown number. -/
theorem invariantHoldsAtPowerOn : Obligations.InvariantHoldsAtPowerOn where
  bufWf := State.reset_buf_wf
  depthPos := Nat.le_add_left 1 Config.fifoSlack
  evqBound := Nat.zero_le _
  evqIdle _ := rfl
  pktCntLegal := Nat.zero_le _
  pktCntReading := nofun
  pktCntHeld := nofun
  hdrHeld := nofun
  pusiSet := nofun
  requestIff := by simp [State.reset]
  requestSpan := nofun
  requestChecked := nofun
  doneIff := by simp [State.reset]
  filterIsLock h := absurd rfl h
  sectionLocks h := absurd rfl h

/-- CAND_ISSUE is selected only with the four checks passed (R170, R175). -/
theorem State.checks_of_selected_candIssue {s : State} {c : CandWindow} (hs : s.selected = some (.candIssue c)) :
    s.buf.read 4 = 0xFC ∧ s.hdr.pid ≠ 101 ∧ (s.lockValid = true → s.hdr.pid = s.lockPid) ∧
      (s.cfgShowNull = false → s.buf.read 17 ≠ 0) := by
  have hf : s.fsm = .processCandidate := State.fsm_of_selected hs
  rw [State.selected_processCandidate hf, decodeCandidate] at hs
  split_ifs at hs with hm hr hl hn <;> cases hs
  simp_all [State.candWindow, State.context, Context.pidLocked]

namespace Inv

variable {s : State}

theorem decReq_eq_none (h : Inv s) (hf : s.fsm ≠ .waitDecoder) : s.decReq = none := by
  simpa [hf] using h.requestIff

theorem doneReason_eq_notEnded (h : Inv s) (hf : s.fsm ≠ .done) : s.doneReason = .notEnded := by
  simpa [hf] using h.doneIff

/-! ### The other agents -/

/-- The invariant reads no port of the source, no answer of the decoder, and none of the host's side. -/
theorem ports (h : Inv s) (hostIn : StreamConfig) (srcBytes : List Byte) (srcEos : Bool) (decAnswers : List Response)
    (hostSeen : List (StatusReg × StatusValue)) (hostRefused : Bool) (turns : List Turn) :
    Inv { s with hostIn, srcBytes, srcEos, decAnswers, hostSeen, hostRefused, turns } :=
  { h with }

theorem sinkRemoves (h : Inv s) : Inv s.sinkRemoves := by
  rcases s.sinkRemoves_cases with ⟨-, e⟩ | ⟨x, rest, hq, e⟩ <;> rw [e]
  · exact h
  · have hbound := h.evqBound
    rw [hq, List.length_cons] at hbound
    exact { h with
      evqBound := Nat.le_of_succ_le hbound
      evqIdle := fun hf => absurd (h.evqIdle hf) (by simp [hq]) }

/-- START in IDLE or DONE, where no request is outstanding (R38, R261). -/
theorem openStream (h : Inv s) (hf : s.startEnabled = true) (c : StreamConfig) : Inv (s.openStream c) := by
  have hreq : s.decReq = none := h.decReq_eq_none fun hw => by simp [State.startEnabled, hw] at hf
  exact { h with
    evqBound := Nat.zero_le _
    evqIdle := nofun
    pktCntLegal := Nat.zero_le _
    pktCntReading := nofun
    pktCntHeld := nofun
    hdrHeld := nofun
    pusiSet := nofun
    requestIff := by simp [hreq]
    requestChecked := nofun
    doneIff := by simp
    filterIsLock := fun _ hen => by
      obtain ⟨p, hp⟩ := Option.isSome_iff_exists.mp hen
      simp [hp]
    sectionLocks := nofun }

/-! ### The block -/

theorem srcRead (h : Inv s) : Inv s.srcRead := { h with }

theorem count (h : Inv s) (c : Counter) : Inv (s.count c) := { h with }

/-- The stream ends while no request is outstanding (R38, R231). -/
theorem terminate (h : Inv s) (hf : s.fsm = .seekSync ∨ s.fsm = .readPacket) {r : DoneReason} (hr : r ≠ .notEnded) :
    Inv (s.terminate r) := by
  have hidle : s.fsm ≠ .idle := by rintro e; simp [e] at hf
  have hreq : s.decReq = none := h.decReq_eq_none fun e => by simp [e] at hf
  exact { h with
    evqIdle := nofun
    pktCntReading := nofun
    pktCntHeld := nofun
    hdrHeld := nofun
    pusiSet := nofun
    requestIff := by simp [hreq]
    requestChecked := nofun
    doneIff := by simp [hr]
    filterIsLock := fun _ => h.filterIsLock hidle
    sectionLocks := fun _ => h.sectionLocks hidle }

/-- Back to SEEK_SYNC from a running stream with no request outstanding. -/
theorem goto_seekSync (h : Inv s) (hidle : s.fsm ≠ .idle) (hdone : s.fsm ≠ .done) (hreq : s.decReq = none) :
    Inv (s.goto .seekSync) :=
  { h with
    evqIdle := nofun
    pktCntReading := nofun
    pktCntHeld := nofun
    hdrHeld := nofun
    pusiSet := nofun
    requestIff := by simp [hreq]
    requestChecked := nofun
    doneIff := by simp [h.doneReason_eq_notEnded hdone]
    filterIsLock := fun _ => h.filterIsLock hidle
    sectionLocks := fun _ => h.sectionLocks hidle }

/-- The marker is accepted (R111). -/
theorem syncAccept (h : Inv s) (hf : s.fsm = .seekSync) : Inv ((s.setPktCnt 0).goto .readPacket) :=
  { h with
    evqIdle := nofun
    pktCntLegal := Nat.zero_le _
    pktCntReading := fun _ => Nat.zero_le _
    pktCntHeld := nofun
    hdrHeld := nofun
    pusiSet := nofun
    requestIff := by simp [h.decReq_eq_none (by simp [hf])]
    requestChecked := nofun
    doneIff := by simp [h.doneReason_eq_notEnded (by simp [hf])]
    filterIsLock := fun _ => h.filterIsLock (by simp [hf])
    sectionLocks := fun _ => h.sectionLocks (by simp [hf]) }

/-- A byte is stored and counted; `PKT_CNT` says where the block goes (R115). -/
theorem storedByte (h : Inv s) (hf : s.fsm = .readPacket) (b : Byte) (hoff : s.pktCnt.toNat < Config.bufLen) {f : Fsm}
    (hnext : f = .processHeader ∧ s.pktCnt + 1 = 187 ∨ f = .readPacket ∧ s.pktCnt + 1 ≠ 187) :
    Inv (((s.withByte s.pktCnt.toNat b).setPktCnt (s.pktCnt + 1)).goto f) := by
  have hreq : s.decReq = none := h.decReq_eq_none (by simp [hf])
  have hlt : s.pktCnt.toNat < 187 := hoff
  have hcnt : (s.pktCnt + 1).toNat = s.pktCnt.toNat + 1 := by bv_omega
  have h187 : s.pktCnt + 1 = 187 ↔ s.pktCnt.toNat + 1 = 187 := by
    rw [← hcnt]
    exact BitVec.toNat_inj.symm
  rw [Ne, h187] at hnext
  exact { h with
    bufWf := Memory.write_wf _ h.bufWf _ _ hoff
    evqIdle := by rintro rfl; simp at hnext
    pktCntLegal := by
      simp only [State.goto_pktCnt, State.setPktCnt_pktCnt, hcnt]
      omega
    pktCntReading := by
      rintro rfl
      obtain ⟨-, hne⟩ := hnext.resolve_left (by simp)
      simp only [State.goto_pktCnt, State.setPktCnt_pktCnt, hcnt]
      omega
    pktCntHeld := by
      rcases hnext with ⟨rfl, e⟩ | ⟨rfl, -⟩
      · exact fun _ => hcnt.trans e
      · nofun
    hdrHeld := by rcases hnext with ⟨rfl, -⟩ | ⟨rfl, -⟩ <;> nofun
    pusiSet := by rintro rfl; simp at hnext
    requestIff := by rcases hnext with ⟨rfl, -⟩ | ⟨rfl, -⟩ <;> simp [hreq]
    requestSpan := by simp [hreq]
    requestChecked := by rintro rfl; simp at hnext
    doneIff := by
      have := h.doneReason_eq_notEnded (by simp [hf])
      rcases hnext with ⟨rfl, -⟩ | ⟨rfl, -⟩ <;> simp [this]
    filterIsLock := fun _ => h.filterIsLock (by simp [hf])
    sectionLocks := fun _ => h.sectionLocks (by simp [hf]) }

/-- The header registers are written for the packet in the buffer (R130, R132). -/
theorem hdrDecode (h : Inv s) (hf : s.fsm = .processHeader) :
    Inv ((s.setHdr (Header.ofWord s.buf.headerWord)).goto (afterHeader (Header.ofWord s.buf.headerWord).pusi)) := by
  have hreq : s.decReq = none := h.decReq_eq_none (by simp [hf])
  have hend : s.doneReason = .notEnded := h.doneReason_eq_notEnded (by simp [hf])
  have hheld : s.pktCnt.toNat = 187 := h.pktCntHeld (by simp [hf, packetHeld])
  cases hp : (Header.ofWord s.buf.headerWord).pusi
  all_goals exact { h with
    evqIdle := nofun
    pktCntReading := nofun
    pktCntHeld := fun _ => hheld
    hdrHeld := fun _ => rfl
    pusiSet := by simp [afterHeader, hp]
    requestIff := by simp [hreq, afterHeader]
    requestChecked := by simp [afterHeader]
    doneIff := by simp [hend, afterHeader]
    filterIsLock := fun _ => h.filterIsLock (by simp [hf])
    sectionLocks := fun _ => h.sectionLocks (by simp [hf]) }

theorem goto_processCandidate (h : Inv s) (hf : s.fsm = .processPes) : Inv (s.goto .processCandidate) :=
  { h with
    evqIdle := nofun
    pktCntReading := nofun
    pktCntHeld := fun _ => h.pktCntHeld (by simp [hf, packetHeld])
    hdrHeld := fun _ => h.hdrHeld (by simp [hf, headerHeld])
    pusiSet := nofun
    requestIff := by simp [h.decReq_eq_none (by simp [hf])]
    requestChecked := nofun
    doneIff := by simp [h.doneReason_eq_notEnded (by simp [hf])]
    filterIsLock := fun _ => h.filterIsLock (by simp [hf])
    sectionLocks := fun _ => h.sectionLocks (by simp [hf]) }

theorem latchPts (h : Inv s) (raw : Ticks) : Inv (s.latchPts raw) := { h with }

/-- An event is appended where there is room (R33, R204). -/
theorem emit (h : Inv s) (hroom : s.hasRoom = true) (hidle : s.fsm ≠ .idle) (e : Event) : Inv (s.emit e) :=
  { h with
    evqBound := by simpa [State.hasRoom] using hroom
    evqIdle := fun hf => absurd hf hidle }

/-- The span goes to the decoder with the four checks passed (R175). -/
theorem candIssue (h : Inv s) (hf : s.fsm = .processCandidate)
    (hchecks : s.buf.read 4 = 0xFC ∧ s.hdr.pid ≠ 101 ∧ (s.lockValid = true → s.hdr.pid = s.lockPid) ∧
      (s.cfgShowNull = false → s.buf.read 17 ≠ 0)) :
    Inv ((s.decRequest s.buf.candSpan).goto .waitDecoder) :=
  { h with
    evqIdle := nofun
    pktCntReading := nofun
    pktCntHeld := fun _ => h.pktCntHeld (by simp [hf, packetHeld])
    hdrHeld := fun _ => h.hdrHeld (by simp [hf, headerHeld])
    pusiSet := nofun
    requestIff := by simp
    requestSpan := by simp
    requestChecked := fun _ => hchecks
    doneIff := by simp [h.doneReason_eq_notEnded (by simp [hf])]
    filterIsLock := fun _ => h.filterIsLock (by simp [hf])
    sectionLocks := fun _ => h.sectionLocks (by simp [hf]) }

/-- The answer is taken and the packet is done (R176, R177). -/
theorem decResponse (h : Inv s) (hf : s.fsm = .waitDecoder) : Inv (s.decResponse.goto .seekSync) :=
  { h with
    evqIdle := nofun
    pktCntReading := nofun
    pktCntHeld := nofun
    hdrHeld := nofun
    pusiSet := nofun
    requestIff := by simp
    requestSpan := by simp
    requestChecked := nofun
    doneIff := by simp [h.doneReason_eq_notEnded (by simp [hf])]
    filterIsLock := fun _ => h.filterIsLock (by simp [hf])
    sectionLocks := fun _ => h.sectionLocks (by simp [hf]) }

/-- The first section locks a PID, and a lock that stands is the filter's still (R29, R176). -/
theorem lockSection (h : Inv s) (hf : s.fsm = .seekSync) (x : Section) : Inv (s.latchSection x).lockIfNone :=
  { h with
    requestChecked := by simp [hf]
    filterIsLock := fun hidle hen => by
      obtain ⟨hv, hp⟩ := h.filterIsLock hidle hen
      exact ⟨rfl, by simpa [hv] using hp⟩
    sectionLocks := fun _ _ => rfl }

/-- Every effect of a selected operation keeps the invariant. -/
theorem effect {t : State} {i : Instr} (h : Inv s) (hs : s.selected = some i) (he : Effect s i t) : Inv t := by
  have hf := State.fsm_of_selected hs
  cases he <;> simp only [Instr.state] at hf
  case syncEos => exact h.srcRead.terminate (.inl hf) nofun
  case syncAccept b => exact h.srcRead.syncAccept hf
  case syncStop b => exact h.srcRead.terminate (.inl hf) nofun
  case pktTrunc => exact h.srcRead.terminate (.inr hf) nofun
  case lastByte b hoff hlast => exact (h.srcRead.storedByte hf b hoff (.inl ⟨rfl, hlast⟩)).count .pkt
  case pktByte b hoff hlast => exact h.srcRead.storedByte hf b hoff (.inr ⟨rfl, hlast⟩)
  case hdrDecode hd =>
    obtain rfl : Header.ofWord s.buf.headerWord = hd := by simpa [State.selected_processHeader hf] using hs
    exact h.hdrDecode hf
  case pesPts w hroom =>
    exact (((h.latchPts _).count .pts).emit hroom (by simp [hf]) _).goto_processCandidate hf
  case pesNoPrefix | pesExcluded | pesNoOpthdr | pesNoPts | pesBadTag => exact h.goto_processCandidate hf
  case candIssue c => exact h.candIssue hf (State.checks_of_selected_candIssue hs)
  case decOk x hroom => exact (((h.decResponse hf).emit hroom nofun (.sec x)).lockSection rfl x).count .sections
  case decFail => exact (h.decResponse hf).count .decFail
  case syncSkip =>
    exact (h.srcRead.count .resync).goto_seekSync (by simp [hf]) (by simp [hf]) (h.decReq_eq_none (by simp [hf]))
  case candSkipMarker | candSkipReserved | candSkipPidlock | candSkipNull =>
    exact (h.count _).goto_seekSync (by simp [hf]) (by simp [hf]) (h.decReq_eq_none (by simp [hf]))

end Inv

/-- Settles O56: the other agents write nothing the invariant reads but `EVQ`'s head, START opens a stream where none
runs, and the block's effects keep it one by one. -/
theorem invariantIsKeptByEveryStep : Obligations.InvariantIsKeptByEveryStep := by
  intro s t h hstep
  have hturn (rest : List Turn) : Inv { s with turns := rest } := h.ports ..
  rcases step_kinds hstep with ⟨rest, -, hen, rfl⟩ | ⟨rest, rfl⟩ | ⟨i, rest, hs, he⟩ | ⟨_, _, _, _, _, _, _, rfl⟩
  · exact (hturn rest).openStream hen s.hostIn
  · exact (hturn rest).sinkRemoves
  · exact (hturn rest).effect hs he
  · exact h.ports ..

end Sys2Proof.Machine

/-! PROOFS. What a step may write (10_state.md section 1, 43_candidate_filter.md section 3, 44_stream_driver.md): the
configuration, the lock, the decoder's request and the events, each read off what one step can do. -/

namespace Sys2Proof.Machine

theorem State.startEnabled_iff (s : State) : s.startEnabled = true ↔ s.fsm = .idle ∨ s.fsm = .done := by
  simp [State.startEnabled]

theorem State.hasRoom_iff (s : State) : s.hasRoom = true ↔ s.evq.length < s.params.fifoDepth := by
  simp [State.hasRoom]

/-! ### Configuration and lock -/

/-- Settles O4: START alone writes the four registers, from the inputs that stand at the host's port. -/
theorem configurationIsLatchedAtStart : Obligations.ConfigurationIsLatchedAtStart := by
  refine ⟨fun s t h => ?_, fun s c rest ht => ?_⟩
  · rcases step_kinds h with ⟨rest, ht, hen, rfl⟩ | ⟨rest, rfl⟩ | ⟨i, rest, -, he⟩ | ⟨_, _, _, _, _, _, _, rfl⟩
    · exact .inl ⟨rest, ht, s.startEnabled_iff.mp hen, rfl, rfl, rfl, fun f hf => by simp [hf]⟩
    · obtain ⟨q, seen, e, -⟩ := State.sinkRemoves_eq { s with turns := rest }
      rw [e]
      exact .inr ⟨rfl, rfl, rfl, rfl⟩
    · exact .inr he.cfg
    · exact .inr ⟨rfl, rfl, rfl, rfl⟩
  · simp only [step, ht]
    rfl

/-! ### The decoder's request -/

/-- A request is made by CAND_ISSUE alone, and it is the span of the packet in the buffer (R175). -/
theorem step_request {s t : State} (h : step s = .next t) (hs : s.decReq = none) (ht : t.decReq ≠ none) :
    (∃ c, s.selected = some (.candIssue c)) ∧ t.decReq = some s.buf.candSpan := by
  rcases step_kinds h with ⟨rest, -, -, rfl⟩ | ⟨rest, rfl⟩ | ⟨i, rest, hsel, he⟩ | ⟨_, _, _, _, _, _, _, rfl⟩
  · exact absurd hs ht
  · obtain ⟨q, seen, e, -⟩ := State.sinkRemoves_eq { s with turns := rest }
    rw [e] at ht
    exact absurd hs ht
  · obtain ⟨c, rfl, hspan⟩ := he.request hs ht
    exact ⟨⟨c, hsel⟩, hspan⟩
  · exact absurd hs ht

/-- Settles O36: no effect replaces a lock, and the request is made with check 3 passed. -/
theorem lockIsStableAndGuardsTheDecoder : Obligations.LockIsStableAndGuardsTheDecoder := by
  intro s t h hv
  refine ⟨?_, fun hs ht => ?_⟩
  · rcases step_kinds h with ⟨rest, ht, hen, rfl⟩ | ⟨rest, rfl⟩ | ⟨i, rest, -, he⟩ | ⟨_, _, _, _, _, _, _, rfl⟩
    · exact .inl ⟨rest, ht, s.startEnabled_iff.mp hen⟩
    · obtain ⟨q, seen, e, -⟩ := State.sinkRemoves_eq { s with turns := rest }
      rw [e]
      exact .inr ⟨hv, rfl⟩
    · exact .inr (he.lock hv)
    · exact .inr ⟨hv, rfl⟩
  · obtain ⟨⟨c, hsel⟩, -⟩ := step_request h hs ht
    obtain ⟨-, -, hlock, -⟩ := State.checks_of_selected_candIssue hsel
    exact hlock hv

/-- Settles O37: the request is made with check 4 passed. -/
theorem nullSuppressionGuardsTheDecoder : Obligations.NullSuppressionGuardsTheDecoder := by
  intro s t h hn hs ht
  obtain ⟨⟨c, hsel⟩, -⟩ := step_request h hs ht
  obtain ⟨-, -, -, hnull⟩ := State.checks_of_selected_candIssue hsel
  exact hnull hn

/-- Settles O38: the request is made in PROCESS_CANDIDATE with checks 1 and 2 passed, and it is the span. -/
theorem onlyMarkedUnreservedPacketsReachTheDecoder : Obligations.OnlyMarkedUnreservedPacketsReachTheDecoder := by
  intro s t h hs ht
  obtain ⟨⟨c, hsel⟩, hspan⟩ := step_request h hs ht
  obtain ⟨hmarker, hpid, -, -⟩ := State.checks_of_selected_candIssue hsel
  exact ⟨State.fsm_of_selected hsel, hmarker, hpid, hspan⟩

/-! ### Events -/

/-- Settles O40: where `exec` has an effect at all, `EVQ` is one of the three cases of the effect. -/
theorem onlyPesPtsAndDecOkEmit : Obligations.OnlyPesPtsAndDecOkEmit := by
  intro i s t h
  rcases exec_cases h with ⟨n, p, r, hi, -⟩ | rfl | ⟨-, he⟩
  · exact .inl ⟨n, p, r, hi⟩
  · exact .inr (.inl rfl)
  · rcases he.evq with hq | ⟨hroom, hq⟩
    · exact .inr (.inl hq)
    · exact .inr (.inr ⟨s.hasRoom_iff.mp hroom, hq⟩)

/-- Settles O42: the sink moves an event from the head of `EVQ` to the end of what it removed, and an effect appends at
most one. -/
theorem emittedEventsAreKeptInOrder : Obligations.EmittedEventsAreKeptInOrder := by
  intro s t h
  rcases step_kinds h with ⟨rest, ht, hen, rfl⟩ | ⟨rest, rfl⟩ | ⟨i, rest, -, he⟩ | ⟨_, _, _, _, _, _, _, rfl⟩
  · exact .inl ⟨rest, ht, s.startEnabled_iff.mp hen⟩
  · obtain ⟨q, seen, e, hkept⟩ := State.sinkRemoves_eq { s with turns := rest }
    rw [e]
    exact .inr ⟨[], by simpa [State.emitted] using hkept, Nat.zero_le _⟩
  · obtain ⟨-, -, hseen, -⟩ := he.frame
    right
    rcases he.evq with hq | ⟨-, ⟨w, -, hq⟩ | ⟨x, -, hq⟩⟩
    · exact ⟨[], by simp [State.emitted, hseen, hq]⟩
    · exact ⟨[.ts (rawTicks w)], by simp [State.emitted, hseen, hq]⟩
    · exact ⟨[.sec x], by simp [State.emitted, hseen, hq]⟩
  · exact .inr ⟨[], by simp [State.emitted]⟩

/-! ### Transitions and tokens -/

/-- Settles O53: a selected operation stands in the row of its own state, and its effect says where it goes. -/
theorem transitionsAreTheTable : Obligations.TransitionsAreTheTable := by
  intro i s t h
  rcases exec_cases h with ⟨n, p, r, rfl, ⟨hen, rfl⟩ | ⟨-, rfl⟩⟩ | rfl | ⟨hs, he⟩
  · rcases s.startEnabled_iff.mp hen with hf | hf <;> exact .inr (.inr (by simp [hf, mnemonic]))
  · exact .inr (.inl rfl)
  · exact .inl rfl
  · have hf := State.fsm_of_selected hs
    right; right
    cases he
    case hdrDecode hd => cases hd.pusi <;> simp [hf, Instr.state, mnemonic, afterHeader]
    all_goals simp [hf, Instr.state, mnemonic]

/-- Taking a token takes the next byte, where there is one. -/
theorem State.srcBytes_tail_cases (s : State) :
    s.srcBytes.tail = s.srcBytes ∨ ∃ b, s.srcBytes = b :: s.srcBytes.tail := by
  cases s.srcBytes with
  | nil => exact .inl rfl
  | cons b rest => exact .inr ⟨b, rfl⟩

/-- Settles O54: an effect that takes a token is of SEEK_SYNC or READ_PACKET, and takes at most the next byte. -/
theorem tokensAreTakenInTwoStatesOnly : Obligations.TokensAreTakenInTwoStatesOnly := by
  intro i s t h
  rcases exec_cases h with ⟨n, p, r, rfl, ⟨-, rfl⟩ | ⟨-, rfl⟩⟩ | rfl | ⟨hs, he⟩
  · exact ⟨rfl, .inl rfl⟩
  · exact ⟨rfl, .inl rfl⟩
  · exact ⟨rfl, .inl rfl⟩
  · obtain ⟨-, -, -, heos⟩ := he.frame
    refine ⟨heos, ?_⟩
    have hf := State.fsm_of_selected hs
    have taken (hf : s.fsm = .seekSync ∨ s.fsm = .readPacket) : s.srcBytes.tail = s.srcBytes ∨
        ((s.fsm = .seekSync ∨ s.fsm = .readPacket) ∧ ∃ b, s.srcBytes = b :: s.srcBytes.tail) :=
      s.srcBytes_tail_cases.imp_right fun hb => ⟨hf, hb⟩
    cases he
    case syncEos | syncAccept | syncStop | syncSkip => simpa using taken (.inl hf)
    case pktTrunc | pktByte | lastByte => simpa using taken (.inr hf)
    all_goals simp

/-! ### No fault -/

/-- In a state of the invariant a selected operation has an answer: the byte to store has its offset. -/
theorem Inv.exec_selected {s : State} {i : Instr} (h : Inv s) (hs : s.selected = some i) :
    (∃ t, Effect s i t ∧ exec i s = .next t) ∨ (s.hasRoom = false ∧ i.emits = true ∧ exec i s = .next s) := by
  rcases exec_selected_cases hs with he | hh | ⟨b, rfl, hoff⟩
  · exact .inl he
  · exact .inr hh
  · have hlt : s.pktCnt.toNat ≤ 186 := h.pktCntReading (State.fsm_of_selected hs)
    have hge : 187 ≤ s.pktCnt.toNat := hoff
    omega

theorem Inv.exec_next {s : State} (h : Inv s) (i : Instr) : ∃ t, exec i s = .next t := by
  by_cases hi : ∃ n p r, i = .start n p r
  · obtain ⟨n, p, r, rfl⟩ := hi
    rcases execStart_cases n p r s with ⟨-, e⟩ | ⟨-, e⟩ <;> exact ⟨_, e⟩
  · push Not at hi
    by_cases hs : s.selected = some i
    · rcases h.exec_selected hs with ⟨t, -, e⟩ | ⟨-, -, e⟩ <;> exact ⟨_, e⟩
    · exact ⟨s, exec_unselected hi hs⟩

theorem Inv.blockStep_next {s : State} (h : Inv s) : ∃ t, blockStep s = .next t := by
  cases hs : s.selected with
  | none => exact ⟨s, blockStep_none hs⟩
  | some i => rw [blockStep_selected hs]; exact h.exec_next i

/-- Settles O57: the buffer has every offset that READ_PACKET stores at, and of the other agents' moves the host's read
alone can stop. -/
theorem noOperationFaults : Obligations.NoOperationFaults := by
  intro s h
  refine ⟨h.exec_next, ?_⟩
  have hturn (rest : List Turn) : Inv { s with turns := rest } := h.ports ..
  unfold step
  split
  · exact .inl h.blockStep_next
  · next turn rest ht =>
    cases turn with
    | block => exact .inl (hturn rest).blockStep_next
    | source k => exact .inl ⟨_, rfl⟩
    | decoder r => exact .inl ⟨_, rfl⟩
    | sink => exact .inl ⟨_, rfl⟩
    | host a =>
      cases a with
      | configure c => exact .inl ⟨_, rfl⟩
      | connect => exact .inl ⟨_, rfl⟩
      | start => exact .inl ((hturn rest).exec_next (.start ..))
      | read r =>
        have hread : ({ s with turns := rest } : State).readable r = s.readable r := by cases r <;> rfl
        rcases State.hostReads_cases { s with turns := rest } r with ⟨-, e⟩ | ⟨hno, e⟩
        · exact .inl ⟨_, e⟩
        · exact .inr ⟨r, rest, ht, hread.symm.trans hno, e⟩

end Sys2Proof.Machine

/-! PROOFS. What does not matter to the block's step (R131, R150, R213): two states that differ in fields it does not
read select the same operation, hold together, and take the same effect. -/

namespace Sys2Proof.Machine

/-! ### The header registers that nothing reads -/

/-- The state with other values of the five header registers that no rule reads (R131). -/
def State.withUnread (s : State) (tei prio : Bool) (tsc afc : BitVec 2) (cc : BitVec 4) : State :=
  { s with hdr := ⟨tei, s.hdr.pusi, prio, s.hdr.pid, tsc, afc, cc⟩ }

/-- HDR_DECODE writes the five registers alike in both states; every other effect leaves them and reads none of them. -/
theorem Effect.withUnread {s t : State} {i : Instr} (h : Effect s i t) (tei prio : Bool) (tsc afc : BitVec 2)
    (cc : BitVec 4) : ∃ tei' prio' tsc' afc' cc',
      Effect (s.withUnread tei prio tsc afc cc) i (t.withUnread tei' prio' tsc' afc' cc') := by
  cases h
  case hdrDecode hd => exact ⟨hd.tei, hd.prio, hd.tsc, hd.afc, hd.cc, .hdrDecode hd⟩
  case lastByte b hoff hlast => exact ⟨tei, prio, tsc, afc, cc, .lastByte b hoff hlast⟩
  case pktByte b hoff hlast => exact ⟨tei, prio, tsc, afc, cc, .pktByte b hoff hlast⟩
  case pesPts w hroom => exact ⟨tei, prio, tsc, afc, cc, .pesPts w hroom⟩
  case decOk x hroom => exact ⟨tei, prio, tsc, afc, cc, .decOk x hroom⟩
  all_goals exact ⟨tei, prio, tsc, afc, cc, by constructor⟩

/-- Settles O14: the selection reads of the header registers `HDR_PID` alone, and so do the effects. -/
theorem unreadHeaderFieldsHaveNoEffect : Obligations.UnreadHeaderFieldsHaveNoEffect := by
  intro s tei prio tsc afc cc t h
  have hsel : (s.withUnread tei prio tsc afc cc).selected = s.selected := rfl
  obtain ⟨t', ht', tei', prio', tsc', afc', cc', rfl⟩ :=
    blockStep_related (R := fun t t' => ∃ tei' prio' tsc' afc' cc', t' = t.withUnread tei' prio' tsc' afc' cc')
      ⟨tei, prio, tsc, afc, cc, rfl⟩ hsel (State.Holds.congr hsel rfl)
      (fun _ he => by
        obtain ⟨tei', prio', tsc', afc', cc', he'⟩ := he.withUnread tei prio tsc afc cc
        exact ⟨_, he', tei', prio', tsc', afc', cc', rfl⟩) h
  exact ⟨tei', prio', tsc', afc', cc', ht'⟩

/-! ### The candidate filter's registers, in PROCESS_PES -/

section Pes

variable {s t : State} {i : Instr}

/-- The header registers, the lock and CFG_SHOW_NULL, which the candidate filter reads. -/
def State.withFilter (s : State) (h : Header) (v n : Bool) (p : Pid) : State :=
  { s with hdr := h, lockValid := v, lockPid := p, cfgShowNull := n }

/-- PROCESS_PES selects by the window and the parameters, and not by what the candidate filter reads (R150). -/
theorem State.selected_withFilter (hf : s.fsm = .processPes) (h : Header) (v n : Bool) (p : Pid) :
    (s.withFilter h v n p).selected = s.selected := by
  rw [State.selected_processPes hf, State.selected_processPes (s := s.withFilter h v n p) hf]
  exact congrArg some (decodePes_congr rfl _)

/-- An effect of PROCESS_PES goes on to the candidate filter, with whatever that will read. -/
theorem Effect.of_processPes (he : Effect s i t) (hi : i.state = .processPes) :
    t.fsm = .processCandidate ∧ ∀ h v n p, Effect (s.withFilter h v n p) i (t.withFilter h v n p) := by
  cases he
  case pesNoPrefix w => exact ⟨rfl, fun h v n p => .pesNoPrefix w⟩
  case pesExcluded w => exact ⟨rfl, fun h v n p => .pesExcluded w⟩
  case pesNoOpthdr w => exact ⟨rfl, fun h v n p => .pesNoOpthdr w⟩
  case pesNoPts w => exact ⟨rfl, fun h v n p => .pesNoPts w⟩
  case pesBadTag w => exact ⟨rfl, fun h v n p => .pesBadTag w⟩
  case pesPts w hroom => exact ⟨rfl, fun h v n p => .pesPts w hroom⟩
  all_goals cases hi

/-- What PROCESS_PES selects takes its effect, but for PES_PTS without room in `EVQ` (R149, R151). -/
theorem exec_processPes (hf : s.fsm = .processPes) (hs : s.selected = some i) :
    (∃ t, Effect s i t ∧ exec i s = .next t) ∨ (s.hasRoom = false ∧ (∃ w, i = .pesPts w) ∧ exec i s = .next s) := by
  have hi : i.state = .processPes := (State.fsm_of_selected hs).symm.trans hf
  rcases exec_selected_cases hs with he | ⟨hroom, hem, e⟩ | ⟨b, rfl, -⟩
  · exact .inl he
  · cases i
    case pesPts w => exact .inr ⟨hroom, ⟨w, rfl⟩, e⟩
    case decOk x => cases hi
    all_goals cases hem
  · cases hi

end Pes

/-- Settles O28: PROCESS_PES holds for room or takes its effect, alike whatever the candidate filter reads. -/
theorem timestampIgnoresCandidateFilterState : Obligations.TimestampIgnoresCandidateFilterState := by
  intro s h v n p hf
  have hs := State.selected_processPes hf
  have hs' := (State.selected_withFilter hf h v n p).trans hs
  rcases exec_processPes hf hs with ⟨t, he, -⟩ | ⟨hroom, ⟨w, hw⟩, -⟩
  · obtain ⟨hfsm, he'⟩ := he.of_processPes ((State.fsm_of_selected hs).symm.trans hf)
    exact ⟨t, blockStep_effect hs he, blockStep_effect hs' (he' h v n p), .inr hfsm⟩
  · rw [hw] at hs hs'
    exact ⟨s, blockStep_holds (.inr ⟨hroom, _, hs, rfl⟩), blockStep_holds (.inr ⟨hroom, _, hs', rfl⟩), .inl rfl⟩

/-! ### The head of EVQ -/

/-- The state with another queue, and another record of what the sink has removed. -/
def State.withQueue (s : State) (q seen : List Event) : State := { s with evq := q, sinkSeen := seen }

section WithQueue

variable (s : State) (q seen : List Event)

theorem State.goto_withQueue (f : Fsm) : (s.goto f).withQueue q seen = (s.withQueue q seen).goto f := rfl
theorem State.setPktCnt_withQueue (n : BitVec 8) :
    (s.setPktCnt n).withQueue q seen = (s.withQueue q seen).setPktCnt n := rfl
theorem State.srcRead_withQueue : s.srcRead.withQueue q seen = (s.withQueue q seen).srcRead := rfl
theorem State.count_withQueue (c : Counter) : (s.count c).withQueue q seen = (s.withQueue q seen).count c := rfl
theorem State.terminate_withQueue (r : DoneReason) :
    (s.terminate r).withQueue q seen = (s.withQueue q seen).terminate r := rfl
theorem State.skip_withQueue (c : Counter) : (s.skip c).withQueue q seen = (s.withQueue q seen).skip c := rfl
theorem State.withByte_withQueue (a : Nat) (b : Byte) :
    (s.withByte a b).withQueue q seen = (s.withQueue q seen).withByte a b := rfl
theorem State.setHdr_withQueue (h : Header) : (s.setHdr h).withQueue q seen = (s.withQueue q seen).setHdr h := rfl
theorem State.latchPts_withQueue (raw : Ticks) :
    (s.latchPts raw).withQueue q seen = (s.withQueue q seen).latchPts raw := rfl
theorem State.latchSection_withQueue (x : Section) :
    (s.latchSection x).withQueue q seen = (s.withQueue q seen).latchSection x := rfl
theorem State.lockIfNone_withQueue : s.lockIfNone.withQueue q seen = (s.withQueue q seen).lockIfNone := rfl
theorem State.decRequest_withQueue (span : List Byte) :
    (s.decRequest span).withQueue q seen = (s.withQueue q seen).decRequest span := rfl
theorem State.decResponse_withQueue : s.decResponse.withQueue q seen = (s.withQueue q seen).decResponse := rfl

/-- An event goes behind whatever stands in the queue. -/
theorem State.emit_withQueue (e : Event) :
    (s.emit e).withQueue (q ++ [e]) seen = (s.withQueue q seen).emit e := rfl

end WithQueue

section Sink

variable {s t : State} {i : Instr} {e : Event} {q : List Event}

theorem State.sinkRemoves_of_evq_cons (hq : s.evq = e :: q) : s.sinkRemoves = s.withQueue q (s.sinkSeen ++ [e]) := by
  simp [State.sinkRemoves, hq, State.withQueue]

theorem State.selected_withQueue (q seen : List Event) : (s.withQueue q seen).selected = s.selected := rfl

theorem State.selected_sinkRemoves (hq : s.evq = e :: q) : s.sinkRemoves.selected = s.selected := by
  rw [State.sinkRemoves_of_evq_cons hq, State.selected_withQueue]

/-- The sink's move makes room for one more event. -/
theorem State.hasRoom_sinkRemoves (hq : s.evq = e :: q) (hlen : s.evq.length ≤ s.params.fifoDepth) :
    s.sinkRemoves.hasRoom = true := by
  rw [State.sinkRemoves_of_evq_cons hq, State.hasRoom_iff]
  simpa [hq, State.withQueue] using hlen

/-- An effect on a state with another queue: it appends what it emits, and does not read the queue but for room. -/
theorem Effect.withQueue (he : Effect s i t) (q seen : List Event)
    (hroom' : s.hasRoom = true → (s.withQueue q seen).hasRoom = true) :
    ∃ l, t.evq = s.evq ++ l ∧ Effect (s.withQueue q seen) i (t.withQueue (q ++ l) seen) := by
  cases he
  case pesPts w hroom =>
    refine ⟨[.ts (rawTicks w)], rfl, ?_⟩
    rw [State.goto_withQueue, State.emit_withQueue, State.count_withQueue, State.latchPts_withQueue]
    exact .pesPts w (hroom' hroom)
  case decOk x hroom =>
    refine ⟨[.sec x], rfl, ?_⟩
    rw [State.goto_withQueue, State.lockIfNone_withQueue, State.emit_withQueue, State.count_withQueue,
      State.latchSection_withQueue, State.decResponse_withQueue]
    exact .decOk x (hroom' hroom)
  all_goals
    refine ⟨[], by simp, ?_⟩
    simp only [List.append_nil, State.goto_withQueue, State.terminate_withQueue, State.setPktCnt_withQueue,
      State.count_withQueue, State.skip_withQueue, State.srcRead_withQueue, State.withByte_withQueue,
      State.setHdr_withQueue, State.decRequest_withQueue, State.decResponse_withQueue]
  case lastByte b hoff hlast => exact .lastByte b hoff hlast
  case pktByte b hoff hlast => exact .pktByte b hoff hlast
  all_goals constructor

/-- An effect appends behind the head of `EVQ`, so that the sink's move may come before it as well as after. -/
theorem Effect.sinkRemoves (he : Effect s i t) (hq : s.evq = e :: q) : Effect s.sinkRemoves i t.sinkRemoves := by
  have hroom' (h : s.hasRoom = true) : (s.withQueue q (s.sinkSeen ++ [e])).hasRoom = true :=
    State.sinkRemoves_of_evq_cons hq ▸ State.hasRoom_sinkRemoves hq (s.hasRoom_iff.mp h).le
  obtain ⟨l, hl, he'⟩ := he.withQueue q (s.sinkSeen ++ [e]) hroom'
  obtain ⟨-, -, hseen, -⟩ := he.frame
  rw [hq, List.cons_append] at hl
  rwa [State.sinkRemoves_of_evq_cons hq, State.sinkRemoves_of_evq_cons hl, hseen]

end Sink

/-- Settles O43: where the block does not wait for room, the sink's move before it leaves its selection, and its effect
appends behind what the sink takes. -/
theorem sinkAndBlockCommute : Obligations.SinkAndBlockCommute := by
  intro s t hne hcan h
  obtain ⟨e, q, hq⟩ := List.exists_cons_of_ne_nil hne
  have hsel := State.selected_sinkRemoves hq
  rcases blockStep_holds_or_effect h with ⟨hold, rfl⟩ | ⟨i, hs, he⟩
  · rcases hold with hnone | ⟨hroom, i, hs, hi⟩
    · exact blockStep_none (hsel.trans hnone)
    · rcases hcan with hlt | ⟨hpts, hok⟩
      · simp [State.hasRoom, hlt] at hroom
      · cases i
        case pesPts w => exact absurd hs (hpts w)
        case decOk x => exact absurd hs (hok x)
        all_goals cases hi
  · exact blockStep_effect (hsel.trans hs) (he.sinkRemoves hq)

/-- Settles O26: PES_PTS reads the room in `EVQ`, which the sink's move makes; the other outcomes do not. -/
theorem pesPtsWaitsForRoomOnly : Obligations.PesPtsWaitsForRoomOnly := by
  refine ⟨fun s w hfull => ?_, fun s w e rest hs hq hlen => ?_, fun s i hf hs hi => ?_⟩
  · exact exec_no_room rfl (by simpa [State.hasRoom] using hfull)
  · have hroom := State.hasRoom_sinkRemoves hq hlen.le
    refine ⟨_, exec_effect ((State.selected_sinkRemoves hq).trans hs) (.pesPts w hroom), ?_, rfl⟩
    simp [State.sinkRemoves_of_evq_cons hq, State.withQueue]
  · exact ⟨_, noTimestampOutcomeWritesFsmOnly s i hf hs hi, rfl⟩

end Sys2Proof.Machine

/-! PROOFS. The media-packet window and the timestamp (30_encoding.md section 1, 42_timestamp_extractor.md section 3):
where a bit of a window field stands, the sum that the three components make, and what PES_PTS writes. -/

namespace Sys2Proof.Machine

/-- Settles O15: the byte that holds position `k + j` lies whole in the window word, and its bits fall as positions
rise. -/
theorem windowFieldsReadMostSignificantBitFirst : Obligations.WindowFieldsReadMostSignificantBitFirst := by
  intro m k n j hkn hj
  have hbyte : (k + j) / 8 < 14 := by omega
  have hbit : (k + j) % 8 < 8 := Nat.mod_lt _ (by omega)
  have hpos : 112 - k - n + (n - 1 - j) = 8 * (13 - (k + j) / 8) + (7 - (k + j) % 8) := by omega
  rw [← m.pesWord_extract_byte _ hbyte, windowField, BitVec.getLsbD_extractLsb', BitVec.getLsbD_extractLsb', hpos]
  simp only [show n - 1 - j < n by omega, show 7 - (k + j) % 8 < 8 by omega]

/-- Settles O16: the fields of the word, read from the bytes. -/
theorem windowFieldsAreTheByteExpressions : Obligations.WindowFieldsAreTheByteExpressions :=
  Memory.ofWord_pesWord

/-! ### Timestamp assembly -/

/-- A shifted component above a smaller value: the "or" of the two is their sum. -/
theorem toNat_shiftLeft_or {n k : Nat} (hi : BitVec n) (lo : Ticks) (hn : n + k ≤ 33) (hlo : lo.toNat < 2 ^ k) :
    (hi.setWidth 33 <<< k ||| lo).toNat = hi.toNat * 2 ^ k + lo.toNat := by
  have hfits : hi.toNat * 2 ^ k < 2 ^ 33 :=
    calc hi.toNat * 2 ^ k < 2 ^ n * 2 ^ k := Nat.mul_lt_mul_of_pos_right hi.isLt (Nat.two_pow_pos k)
      _ = 2 ^ (n + k) := (pow_add 2 n k).symm
      _ ≤ 2 ^ 33 := Nat.pow_le_pow_right (by omega) hn
  have hwide : hi.toNat < 2 ^ 33 := lt_of_le_of_lt (Nat.le_mul_of_pos_right _ (Nat.two_pow_pos k)) hfits
  rw [BitVec.toNat_or, BitVec.toNat_shiftLeft, BitVec.toNat_setWidth, Nat.mod_eq_of_lt hwide, Nat.shiftLeft_eq,
    Nat.mod_eq_of_lt hfits, ← Nat.shiftLeft_eq, ← Nat.shiftLeft_add_eq_or_of_lt hlo, Nat.shiftLeft_eq]

theorem rawTicks_toNat (w : PesWindow) :
    (rawTicks w).toNat = w.ptsHi.toNat * 2 ^ 30 + w.ptsMid.toNat * 2 ^ 15 + w.ptsLo.toNat := by
  have hmid := w.ptsMid.isLt
  have hlo := w.ptsLo.isLt
  have hlow : (w.ptsLo.setWidth 33).toNat = w.ptsLo.toNat := by
    rw [BitVec.toNat_setWidth]
    exact Nat.mod_eq_of_lt (by omega)
  have hsum : (w.ptsMid.setWidth 33 <<< 15 ||| w.ptsLo.setWidth 33).toNat =
      w.ptsMid.toNat * 2 ^ 15 + w.ptsLo.toNat := by
    rw [toNat_shiftLeft_or _ _ (by omega) (by omega), hlow]
  rw [rawTicks, BitVec.or_assoc, toNat_shiftLeft_or _ _ (by omega) (by omega), hsum]
  omega

/-- Settles O17: the components are disjoint, so that their "or" is their sum, and 33 bits bound it. -/
theorem rawTicksIsTheSumOfThreeParts : Obligations.RawTicksIsTheSumOfThreeParts := fun w =>
  ⟨rawTicks_toNat w, Nat.le_of_lt_succ (rawTicks w).isLt⟩

/-- Settles O23: the five tests passed select PES_PTS, and the three fields' sum is what it assembles. -/
theorem pesPtsEmitsTimestamp : Obligations.PesPtsEmitsTimestamp := by
  intro s raw hf hp hx ho hfl ht hroom hraw
  obtain rfl : rawTicks s.buf.windowOfBytes = raw :=
    BitVec.eq_of_toNat_eq ((rawTicks_toNat _).trans hraw.symm)
  have hs : s.selected = some (.pesPts s.buf.windowOfBytes) := by
    rw [State.selected_processPes_bytes hf, decodePes_pts hp hx ho hfl ht]
  rw [exec_effect hs (.pesPts _ (s.hasRoom_iff.mpr hroom))]
  rfl

/-- What PROCESS_PES selects is one of its six outcomes, by the five fields it tests (R141). -/
theorem decodePes_outcome (c : Context) (w : PesWindow) :
    ∃ outcome ∈ [Instr.pesNoPrefix, .pesExcluded, .pesNoOpthdr, .pesNoPts, .pesBadTag, .pesPts],
      ∀ v : PesWindow, v.startCode = w.startCode → v.streamId = w.streamId → v.optMarker = w.optMarker →
        v.ptsFlags = w.ptsFlags → v.ptsTag = w.ptsTag → decodePes c v = outcome v := by
  by_cases hp : w.startCode = 1
  case neg => exact ⟨.pesNoPrefix, by simp, fun v hp' _ _ _ _ => decodePes_noPrefix (hp' ▸ hp)⟩
  by_cases hx : w.streamId ∈ c.params.excludedIds
  case pos => exact ⟨.pesExcluded, by simp, fun v hp' hx' _ _ _ => decodePes_excluded (hp' ▸ hp) (hx' ▸ hx)⟩
  by_cases ho : w.optMarker = 0b10#2
  case neg =>
    exact ⟨.pesNoOpthdr, by simp, fun v hp' hx' ho' _ _ => decodePes_noOpthdr (hp' ▸ hp) (hx' ▸ hx) (ho' ▸ ho)⟩
  by_cases hf : w.ptsFlags = 0b10#2
  case neg =>
    exact ⟨.pesNoPts, by simp, fun v hp' hx' ho' hf' _ =>
      decodePes_noPts (hp' ▸ hp) (hx' ▸ hx) (ho' ▸ ho) (hf' ▸ hf)⟩
  by_cases ht : w.ptsTag = 2#4
  case neg =>
    exact ⟨.pesBadTag, by simp, fun v hp' hx' ho' hf' ht' =>
      decodePes_badTag (hp' ▸ hp) (hx' ▸ hx) (ho' ▸ ho) (hf' ▸ hf) (ht' ▸ ht)⟩
  exact ⟨.pesPts, by simp, fun v hp' hx' ho' hf' ht' =>
    decodePes_pts (hp' ▸ hp) (hx' ▸ hx) (ho' ▸ ho) (hf' ▸ hf) (ht' ▸ ht)⟩

/-- Settles O24: neither the assembly nor the five tests read a marker. -/
theorem timestampMarkersAreNotChecked : Obligations.TimestampMarkersAreNotChecked := by
  intro c w m1 m2 m3
  obtain ⟨outcome, hmem, hall⟩ := decodePes_outcome c w
  exact ⟨rfl, outcome, hmem, hall w rfl rfl rfl rfl rfl, hall _ rfl rfl rfl rfl rfl⟩

end Sys2Proof.Machine

/-! PROOFS. Reading a packet (40_synchronizer.md, 20_memory.md section 3): one byte at a time into the buffer, then a
whole packet from its marker. -/

namespace Sys2Proof.Machine

section Token

variable {s : State} {b : Byte} {rest : List Byte}

theorem State.selected_syncSkip (hf : s.fsm = .seekSync) (hb : s.srcBytes = b :: rest) (hm : b ≠ s.params.syncByte)
    (hr : s.cfgResync = true) : s.selected = some (.syncSkip b) := by
  rw [State.selected_seekSync_byte hf hb, if_neg hm, if_pos hr]

theorem State.selected_pktByte (hf : s.fsm = .readPacket) (hb : s.srcBytes = b :: rest) :
    s.selected = some (.pktByte b) := by
  rw [State.selected_readPacket hf, State.token_of_srcBytes_cons hb]
  rfl

theorem State.selected_pktTrunc (hf : s.fsm = .readPacket) (hb : s.srcBytes = []) (he : s.srcEos = true) :
    s.selected = some .pktTrunc := by
  rw [State.selected_readPacket hf, State.token_of_srcEos hb he]
  rfl

/-- PKT_BYTE stores at PKT_CNT, and the 187th byte completes the packet (R115). -/
theorem exec_pktByte_selected (hf : s.fsm = .readPacket) (hb : s.srcBytes = b :: rest) (hcnt : s.pktCnt.toNat ≤ 186) :
    exec (.pktByte b) s = .next { s with
      srcBytes := rest
      buf := s.buf.write s.pktCnt.toNat b
      pktCnt := s.pktCnt + 1
      cnt := if s.pktCnt.toNat = 186 then { s.cnt with pkt := s.cnt.pkt + 1 } else s.cnt
      fsm := if s.pktCnt.toNat = 186 then .processHeader else .readPacket } := by
  have hs := State.selected_pktByte hf hb
  have hoff : s.pktCnt.toNat < Config.bufLen := Nat.lt_succ_of_le hcnt
  by_cases hlast : s.pktCnt.toNat = 186
  · rw [exec_effect hs (.lastByte b hoff (by bv_omega)), State.srcRead_of_srcBytes_cons hb, if_pos hlast, if_pos hlast]
    rfl
  · rw [exec_effect hs (.pktByte b hoff (by bv_omega)), State.srcRead_of_srcBytes_cons hb, if_neg hlast, if_neg hlast]
    rfl

end Token

/-- Settles O8: with resynchronization on any other byte selects SYNC_SKIP, which takes that one byte and counts it. -/
theorem syncSkipTriesNextByte : Obligations.SyncSkipTriesNextByte := by
  intro s b rest hf hb hm hr
  rw [exec_effect (State.selected_syncSkip hf hb hm hr) (.syncSkip b), State.srcRead_of_srcBytes_cons hb]
  cases s
  cases hf
  rfl

/-- Settles O9: the byte is written at PKT_CNT, and reading after that write is `Memory.read_write`. -/
theorem pktByteStoresAtPktCnt : Obligations.PktByteStoresAtPktCnt := by
  intro s b rest hwf hf hb hcnt
  exact ⟨_, exec_pktByte_selected hf hb hcnt, s.buf.read_write hwf s.pktCnt.toNat b, rfl⟩

/-- Settles O10: EOS selects PKT_TRUNC, and taking it leaves the source port as it is. -/
theorem pktTruncEndsStreamTruncated : Obligations.PktTruncEndsStreamTruncated := by
  intro s hf hb he
  rw [exec_effect (State.selected_pktTrunc hf hb he) .pktTrunc, State.srcRead_of_srcBytes_nil hb]
  rfl

/-! ### A whole packet -/

/-- The state once `bytes` have filled the buffer from PKT_CNT on, with `rest` still offered (R66, R115). -/
def State.packetRead (s : State) (bytes rest : List Byte) : State :=
  { s with
    srcBytes := rest
    buf := s.buf.writeBytes s.pktCnt.toNat bytes
    pktCnt := 187
    cnt := { s.cnt with pkt := s.cnt.pkt + 1 }
    fsm := .processHeader }

/-- The bytes still missing from a packet, read one a step: by induction on how many there are. -/
theorem run_readPacket (rest : List Byte) : ∀ (bytes : List Byte) (s : State), s.turns = [] → s.fsm = .readPacket →
    bytes ≠ [] → s.pktCnt.toNat + bytes.length = 187 → s.srcBytes = bytes ++ rest →
    Host.Core.run core bytes.length s = .next (s.packetRead bytes rest)
  | [], _, _, _, hne, _, _ => absurd rfl hne
  | b :: bs, s, ht, hf, _, hlen, hb => by
    rw [List.length_cons] at hlen
    have hstep := exec_pktByte_selected (rest := bs ++ rest) hf hb (by omega)
    rw [← blockStep_selected (State.selected_pktByte hf hb), ← step_block_nil ht] at hstep
    cases bs with
    | nil =>
      have hlast : s.pktCnt.toNat = 186 := by simpa using hlen
      have h187 : s.pktCnt + 1 = 187 := by bv_omega
      rw [if_pos hlast, if_pos hlast, h187] at hstep
      exact run_one hstep
    | cons b' bs =>
      have hmore : s.pktCnt.toNat ≠ 186 := by
        rw [List.length_cons] at hlen
        omega
      rw [if_neg hmore, if_neg hmore] at hstep
      have hcnt : (s.pktCnt + 1).toNat = s.pktCnt.toNat + 1 := by bv_omega
      rw [List.length_cons, Nat.add_comm]
      refine (run_add 1 _ s _ (run_one hstep)).trans
        ((run_readPacket rest (b' :: bs) _ ?_ ?_ nofun ?_ ?_).trans (congrArg _ ?_))
      · exact ht
      · rfl
      · simp only [hcnt]
        omega
      · rfl
      · simp only [State.packetRead, hcnt, Memory.writeBytes]

/-- From a marker, 188 steps read the packet behind it into `P[0..186]`. -/
theorem run_packet {s : State} {bytes rest : List Byte} (ht : s.turns = []) (hf : s.fsm = .seekSync)
    (hlen : bytes.length = 187) (hb : s.srcBytes = s.params.syncByte :: (bytes ++ rest)) :
    Host.Core.run core 188 s = .next ({ s with pktCnt := 0 }.packetRead bytes rest) := by
  have hstep : step s = .next { s with srcBytes := bytes ++ rest, pktCnt := 0, fsm := .readPacket } := by
    rw [step_block_nil ht, blockStep_selected (State.selected_syncAccept hf hb rfl)]
    exact syncAcceptEntersReadPacket s _ _ hf hb rfl
  have hrun := run_readPacket rest bytes { s with srcBytes := bytes ++ rest, pktCnt := 0, fsm := .readPacket } ht rfl
    (by rintro rfl; cases hlen) (by simpa using hlen) rfl
  rw [hlen] at hrun
  exact (run_add 1 187 _ _ (run_one hstep)).trans hrun

/-- The buffer of a packet just read from its marker is its bytes in order. -/
theorem State.read_packetRead {s : State} (hwf : s.buf.wf = true) {bytes : List Byte} (hlen : bytes.length = 187)
    (rest : List Byte) (i : Nat) (hi : i < 187) :
    ({ s with pktCnt := 0 }.packetRead bytes rest).buf.read i = bytes.getD i 0 := by
  have hread := Memory.read_writeBytes bytes s.buf 0 i hwf (by simp [hlen])
  rwa [if_pos (by omega)] at hread

/-- Settles O12: 188 steps write the 187 bytes from offset 0 on. -/
theorem markerAndBytesFillTheBuffer : Obligations.MarkerAndBytesFillTheBuffer := by
  intro s bytes rest hwf ht hf hlen hb
  refine ⟨_, run_packet ht hf hlen hb, fun i hi => ?_, rfl⟩
  have hlt : i < bytes.length := by omega
  rw [State.read_packetRead hwf hlen rest i hi, List.getD_eq_getElem _ _ hlt, List.getElem?_eq_getElem hlt]

end Sys2Proof.Machine

/-! PROOFS. A PESPTS line through the block (30_encoding.md section 5): the line's bytes in the buffer give back the
header and the timestamp that the line was written from. -/

namespace Sys2Proof.Machine

/-! ### The line's bytes, read back -/

/-- The header word, from the three bytes it is written as (R82). -/
theorem Memory.headerWord_of_bytes {m : Memory} {h : BitVec 24} (h0 : m.read 0 = h.extractLsb' 16 8)
    (h1 : m.read 1 = h.extractLsb' 8 8) (h2 : m.read 2 = h.extractLsb' 0 8) : m.headerWord = h := by
  have high : h.extractLsb' 16 8 ++ h.extractLsb' 8 8 = h.extractLsb' 8 16 := extract_join h 8 8 8
  have all : h.extractLsb' 8 16 ++ h.extractLsb' 0 8 = h.extractLsb' 0 24 := extract_join h 0 8 16
  rw [Memory.headerWord, h0, h1, h2, high]
  exact all.trans (extract_all h)

/-- R99: a component of 15 bits with its marker stands in two bytes, and R85's expression reads it back. -/
theorem component_of_bytes (x : BitVec 15) :
    (x ++ 1#1).extractLsb' 8 8 ++ ((x ++ 1#1).extractLsb' 0 8).extractLsb' 1 7 = x := by
  rw [BitVec.extractLsb'_extractLsb'_of_le (by omega)]
  calc (x ++ 1#1).extractLsb' 8 8 ++ (x ++ 1#1).extractLsb' 1 7
      = (x ++ 1#1).extractLsb' 1 15 := extract_join (x ++ 1#1) 1 7 8
    _ = x.extractLsb' 0 15 := extract_append_hi _ _ _ _ (by omega)
    _ = x := extract_all x

/-- A timestamp is its three components (R86, R99). -/
theorem ticks_eq_components (pts : Ticks) :
    pts.toNat = (pts.extractLsb' 30 3).toNat * 2 ^ 30 + (pts.extractLsb' 15 15).toNat * 2 ^ 15 +
      (pts.extractLsb' 0 15).toNat := by
  have := pts.isLt
  simp only [BitVec.extractLsb'_toNat, Nat.shiftRight_eq_div_pow]
  omega

/-- A TSPKT line is the marker, the header's bytes, and the payload filled up to 184 bytes (R98). -/
theorem tsPacket_eq_some {p : Params} {h : Header} {payload line : List Byte} (hl : tsPacket p h payload = some line) :
    ∃ bytes, bytes.length = 187 ∧ line = p.syncByte :: bytes ∧
      ∃ fill, bytes = headerBytes h.toWord ++ payload ++ fill := by
  unfold tsPacket at hl
  split_ifs at hl with hlen
  cases hl
  refine ⟨_, ?_, rfl, List.replicate (Config.payloadLen - payload.length) 0xFF, rfl⟩
  have hfill : payload.length ≤ 184 := hlen
  simp only [List.length_cons, List.length_append, List.length_replicate, Config.payloadLen]
  omega

/-- The window of a PESPTS line's bytes passes the five tests, and its components are the line's timestamp. -/
theorem Memory.windowOfBytes_pespts {m : Memory} {h : BitVec 24} {sid : Byte} {pts : Ticks} {fill : List Byte}
    (hread : ∀ i, i < 187 → m.read i = (headerBytes h ++ pesPtsPayload sid pts ++ fill).getD i 0) :
    m.windowOfBytes.startCode = 1 ∧ m.windowOfBytes.streamId = sid ∧ m.windowOfBytes.optMarker = 0b10#2 ∧
      m.windowOfBytes.ptsFlags = 0b10#2 ∧ m.windowOfBytes.ptsTag = 2#4 ∧
      m.windowOfBytes.ptsHi = pts.extractLsb' 30 3 ∧ m.windowOfBytes.ptsMid = pts.extractLsb' 15 15 ∧
      m.windowOfBytes.ptsLo = pts.extractLsb' 0 15 := by
  have h12 : m.read 12 = 2#4 ++ pts.extractLsb' 30 3 ++ 1#1 := hread 12 (by omega)
  have h13 : m.read 13 = (pts.extractLsb' 15 15 ++ 1#1).extractLsb' 8 8 := hread 13 (by omega)
  have h14 : m.read 14 = (pts.extractLsb' 15 15 ++ 1#1).extractLsb' 0 8 := hread 14 (by omega)
  have h15 : m.read 15 = (pts.extractLsb' 0 15 ++ 1#1).extractLsb' 8 8 := hread 15 (by omega)
  have h16 : m.read 16 = (pts.extractLsb' 0 15 ++ 1#1).extractLsb' 0 8 := hread 16 (by omega)
  refine ⟨?_, hread 6 (by omega), ?_, ?_, ?_, ?_, ?_, ?_⟩
  · have startCode : m.windowOfBytes.startCode = 0#8 ++ 0#8 ++ 1#8 := by
      rw [Memory.windowOfBytes, hread 3 (by omega), hread 4 (by omega), hread 5 (by omega)]
      rfl
    exact startCode
  · rw [Memory.windowOfBytes, show m.read 9 = 0x80#8 from hread 9 (by omega)]
    rfl
  · rw [Memory.windowOfBytes, show m.read 10 = 0x80#8 from hread 10 (by omega)]
    rfl
  · simp (disch := omega) only [Memory.windowOfBytes, h12, extract_append_hi]
    exact extract_all _
  · simp (disch := omega) only [Memory.windowOfBytes, h12, extract_append_hi, extract_append_lo]
    exact extract_all _
  · simp only [Memory.windowOfBytes, h13, h14, component_of_bytes]
  · simp only [Memory.windowOfBytes, h15, h16, component_of_bytes]

/-! ### Header and window, one step each -/

theorem step_effect {s t : State} {i : Instr} (ht : s.turns = []) (hs : s.selected = some i) (he : Effect s i t) :
    step s = .next t := by
  rw [step_block_nil ht, blockStep_effect hs he]

/-- With a PESPTS line's bytes in the buffer, HDR_DECODE and PES_PTS emit the line's timestamp in two steps. -/
theorem run_pespts {s : State} {pid : Pid} {cc : BitVec 4} {sid : Byte} {pts : Ticks} {fill : List Byte}
    (ht : s.turns = []) (hf : s.fsm = .processHeader) (hx : sid ∉ s.params.excludedIds)
    (hroom : s.evq.length < s.params.fifoDepth)
    (hread : ∀ i, i < 187 → s.buf.read i =
      (headerBytes (lineHeader pid true cc).toWord ++ pesPtsPayload sid pts ++ fill).getD i 0) :
    ∃ t, Host.Core.run core 2 s = .next t ∧ t.evq = s.evq ++ [.ts pts] ∧ t.lastPts = pts ∧ t.hdr.pid = pid ∧
      t.srcBytes = s.srcBytes ∧ t.fsm = .processCandidate := by
  have hhdr : s.buf.headerOfBytes = lineHeader pid true cc := by
    rw [← Memory.ofWord_headerWord, Memory.headerWord_of_bytes (hread 0 (by omega)) (hread 1 (by omega))
      (hread 2 (by omega)), Header.ofWord_toWord]
  have hsel : s.selected = some (.hdrDecode (lineHeader pid true cc)) := by
    rw [State.selected_processHeader hf, Memory.ofWord_headerWord, hhdr]
  have hheader := step_effect ht hsel (.hdrDecode _)
  obtain ⟨hp, hid, ho, hfl, htag, hhi, hmid, hlo⟩ := Memory.windowOfBytes_pespts hread
  have hraw : rawTicks s.buf.windowOfBytes = pts :=
    BitVec.eq_of_toNat_eq (by rw [rawTicks_toNat, hhi, hmid, hlo, ← ticks_eq_components])
  have hsel' : ((s.setHdr (lineHeader pid true cc)).goto .processPes).selected = some (.pesPts s.buf.windowOfBytes) :=
    (State.selected_processPes_bytes rfl).trans (congrArg some (decodePes_pts hp (hid ▸ hx) ho hfl htag))
  have hpes := step_effect (by exact ht) hsel' (.pesPts _ (s.hasRoom_iff.mpr hroom))
  exact ⟨_, (run_add 1 1 _ _ (run_one hheader)).trans (run_one hpes), by simp [hraw, lineHeader]⟩

/-- Settles O60: 188 steps read the packet, HDR_DECODE reads back the line's header, whose PUSI leads to PROCESS_PES,
and PES_PTS assembles the line's timestamp. -/
theorem pesptsLineEmitsItsTimestamp : Obligations.PesptsLineEmitsItsTimestamp := by
  intro s pid cc sid pts line rest hwf ht hf hx hroom hline hb
  obtain ⟨bytes, hlen, rfl, fill, rfl⟩ := tsPacket_eq_some hline
  have hpacket := run_packet ht hf hlen hb
  obtain ⟨t, hrun, ht'⟩ := run_pespts (s := { s with pktCnt := 0 }.packetRead _ rest) ht rfl hx hroom
    (State.read_packetRead hwf hlen rest)
  exact ⟨t, (run_add 188 2 _ _ hpacket).trans hrun, ht'⟩

end Sys2Proof.Machine

/-! PROOFS. The runs come to an end (44_stream_driver.md section 3, R210, R230): a packet in processing moves on at
every step, if it has room for its events and an answer for its request, and so does a stream whose source has ended. -/

namespace Sys2Proof.Machine

/-- How many steps at most a packet still takes in this state (R210). -/
def stepsAhead : Fsm → Nat
  | .processHeader => 4
  | .processPes => 3
  | .processCandidate => 2
  | .waitDecoder => 1
  | .idle | .seekSync | .readPacket | .done => 0

/-- How many events at most a packet still emits in this state (R204). -/
def eventsAhead : Fsm → Nat
  | .processHeader | .processPes => 2
  | .processCandidate | .waitDecoder => 1
  | .idle | .seekSync | .readPacket | .done => 0

/-- How many answers at most a packet still takes in this state (R203). -/
def answersAhead (f : Fsm) : Nat := (packetHeld f).toNat

/-- One packet takes at most one answer and emits at most two events. -/
theorem answersAhead_eventsAhead_le (f : Fsm) : answersAhead f ≤ 1 ∧ eventsAhead f ≤ 2 := by
  cases f <;> decide

/-- The block moves alone, with answers and room for the packet in processing and `n` packets after it. -/
structure Provided (s : State) (n : Nat) : Prop where
  inv : Inv s
  alone : s.turns = []
  answers : n + answersAhead s.fsm ≤ s.decAnswers.length
  room : s.evq.length + 2 * n + eventsAhead s.fsm ≤ s.params.fifoDepth

section Progress

variable {s t : State} {i : Instr} {n : Nat}

/-- A step from a provided state is the effect of what is selected: the invariant leaves no fault, and the room no
reason to wait. -/
theorem Provided.step_effect (h : Provided s n) (hs : s.selected = some i) : ∃ t, Effect s i t ∧ step s = .next t := by
  rw [step_block_nil h.alone, blockStep_selected hs]
  refine (h.inv.exec_selected hs).resolve_right fun ⟨hfull, hi, _⟩ => ?_
  have hahead : 1 ≤ eventsAhead s.fsm := by
    rw [State.fsm_of_selected hs]
    cases i
    case pesPts w => exact Nat.one_le_ofNat
    case decOk x => exact Nat.le_refl 1
    all_goals cases hi
  have hroom := h.room
  have hfull' : s.params.fifoDepth ≤ s.evq.length := by simpa [State.hasRoom] using hfull
  omega

/-- With a packet in processing something is selected: its answer is there when the block waits for it. -/
theorem Provided.selected_of_packetHeld (h : Provided s n) (hf : packetHeld s.fsm = true) :
    ∃ i, s.selected = some i := by
  cases hfsm : s.fsm <;> rw [hfsm] at hf <;> cases hf
  case processHeader => exact ⟨_, State.selected_processHeader hfsm⟩
  case processPes => exact ⟨_, State.selected_processPes hfsm⟩
  case processCandidate => exact ⟨_, State.selected_processCandidate hfsm⟩
  case waitDecoder =>
    obtain ⟨span, hreq⟩ := Option.isSome_iff_exists.mp (h.inv.requestIff.mpr hfsm)
    have hans := h.answers
    rw [hfsm] at hans
    cases ha : s.decAnswers with
    | nil => simp [ha, answersAhead, packetHeld] at hans
    | cons r rest => exact ⟨_, State.selected_waitDecoder_response hfsm hreq ha⟩

/-- An effect on a packet in processing brings its end nearer, and uses up no more than was ahead of it. -/
theorem Effect.of_packetHeld (he : Effect s i t) (hf : packetHeld i.state = true) :
    stepsAhead t.fsm < stepsAhead i.state ∧ (packetHeld t.fsm = true ∨ t.fsm = .seekSync) ∧
      t.srcBytes = s.srcBytes ∧
      t.evq.length + eventsAhead t.fsm ≤ s.evq.length + eventsAhead i.state ∧
      s.decAnswers.length + answersAhead t.fsm ≤ t.decAnswers.length + answersAhead i.state := by
  cases he <;> cases hf
  case hdrDecode h =>
    cases h.pusi <;> simp [Instr.state, afterHeader, stepsAhead, eventsAhead, answersAhead, packetHeld]
  all_goals simp [Instr.state, stepsAhead, eventsAhead, answersAhead, packetHeld]
  all_goals omega

/-- A packet in processing moves on at every step (R210). -/
theorem Provided.step_packetHeld (h : Provided s n) (hf : packetHeld s.fsm = true) :
    ∃ t, step s = .next t ∧ Provided t n ∧ stepsAhead t.fsm < stepsAhead s.fsm ∧
      (packetHeld t.fsm = true ∨ t.fsm = .seekSync) ∧ t.srcBytes = s.srcBytes ∧ t.srcEos = s.srcEos := by
  obtain ⟨i, hs⟩ := h.selected_of_packetHeld hf
  obtain ⟨t, he, hstep⟩ := h.step_effect hs
  have hfsm := State.fsm_of_selected hs
  obtain ⟨hless, hnext, hsrc, hevq, hans⟩ := he.of_packetHeld (hfsm ▸ hf)
  obtain ⟨hparams, hturns, -, heos⟩ := he.frame
  rw [← hfsm] at hless hevq hans
  have hanswers := h.answers
  have hroom := h.room
  refine ⟨t, hstep, ⟨invariantIsKeptByEveryStep s t h.inv hstep, hturns.trans h.alone, ?_, ?_⟩, hless, hnext,
    hsrc, heos⟩
  · omega
  · rw [hparams]
    omega

/-- A packet in processing is done after at most the steps ahead of it. -/
theorem Provided.packet_done : ∀ {s : State}, Provided s n → packetHeld s.fsm = true →
    ∃ k t, k ≤ stepsAhead s.fsm ∧ Host.Core.run core k s = .next t ∧ Provided t n ∧ t.fsm = .seekSync ∧
      t.srcBytes = s.srcBytes ∧ t.srcEos = s.srcEos := by
  intro s h hf
  induction hk : stepsAhead s.fsm using Nat.strong_induction_on generalizing s with
  | _ k ih =>
    obtain ⟨t, hstep, ht, hless, hnext, hsrc, heos⟩ := h.step_packetHeld hf
    rw [hk] at hless
    rcases hnext with hheld | hdone
    · obtain ⟨l, u, hl, hrun, hu, hseek, hsrc', heos'⟩ := ih _ hless ht hheld rfl
      exact ⟨1 + l, u, by omega, (run_add 1 l _ _ (run_one hstep)).trans hrun, hu, hseek, hsrc'.trans hsrc,
        heos'.trans heos⟩
    · exact ⟨1, t, by omega, run_one hstep, ht, hdone, hsrc, heos⟩

end Progress

/-- Settles O58: no more than the four steps ahead of a header are taken. -/
theorem packetIsDoneInFourSteps : Obligations.PacketIsDoneInFourSteps := by
  intro s h ht hf hroom hans
  have hprov : Provided s 0 :=
    ⟨h, ht, by simpa [hf, answersAhead, packetHeld] using Nat.succ_le_of_lt (List.length_pos_iff.mpr hans),
      by simpa [hf, eventsAhead] using hroom⟩
  obtain ⟨k, t, hk, hrun, -, hseek, -, -⟩ := hprov.packet_done (by simp [hf, packetHeld])
  exact ⟨k, t, by simpa [hf, stepsAhead] using hk, hrun, hseek⟩

/-! ### The end of a stream -/

section Stream

variable {s t : State} {i : Instr} {n : Nat}

/-- The states that read a token (R201). -/
def readsToken : Fsm → Bool
  | .seekSync | .readPacket => true
  | .idle | .processHeader | .processPes | .processCandidate | .waitDecoder | .done => false

/-- An effect that takes a token takes the next byte, and uses up neither room nor answers. -/
theorem Effect.of_readsToken (he : Effect s i t) (hf : readsToken i.state = true) :
    t.srcBytes = s.srcBytes.tail ∧ t.evq = s.evq ∧ t.decAnswers = s.decAnswers ∧ t.fsm ≠ .idle := by
  cases he <;> cases hf <;> simp

/-- EOS ends the stream in either state (R112, R116). -/
theorem step_eos (ht : s.turns = []) (hf : readsToken s.fsm = true) (hb : s.srcBytes = []) (he : s.srcEos = true) :
    ∃ t, step s = .next t ∧ t.fsm = .done := by
  cases hfsm : s.fsm <;> rw [hfsm] at hf <;> cases hf
  case seekSync => exact ⟨_, Machine.step_effect ht (State.selected_syncEos hfsm hb he) .syncEos, rfl⟩
  case readPacket => exact ⟨_, Machine.step_effect ht (State.selected_pktTrunc hfsm hb he) .pktTrunc, rfl⟩

theorem State.selected_of_byte {b : Byte} {rest : List Byte} (hf : readsToken s.fsm = true)
    (hb : s.srcBytes = b :: rest) : ∃ i, s.selected = some i := by
  cases hfsm : s.fsm <;> rw [hfsm] at hf <;> cases hf
  case seekSync => exact ⟨_, State.selected_seekSync_byte hfsm hb⟩
  case readPacket => exact ⟨_, State.selected_pktByte hfsm hb⟩

/-- A byte taken leaves the provision of one packet less: no more than one can begin with it. -/
theorem Provided.step_byte (h : Provided s (n + 1)) (hf : readsToken s.fsm = true) {b : Byte} {rest : List Byte}
    (hb : s.srcBytes = b :: rest) : ∃ t, step s = .next t ∧ Provided t n ∧ t.srcBytes = rest ∧ t.srcEos = s.srcEos ∧
      t.fsm ≠ .idle := by
  obtain ⟨i, hs⟩ := State.selected_of_byte hf hb
  obtain ⟨t, he, hstep⟩ := h.step_effect hs
  obtain ⟨hsrc, hevq, hdec, hnext⟩ := he.of_readsToken (State.fsm_of_selected hs ▸ hf)
  obtain ⟨hparams, hturns, -, heos⟩ := he.frame
  have hanswers := h.answers
  have hroom := h.room
  have hahead := answersAhead_eventsAhead_le t.fsm
  refine ⟨t, hstep, ⟨invariantIsKeptByEveryStep s t h.inv hstep, hturns.trans h.alone, ?_, ?_⟩, ?_, heos, hnext⟩
  · rw [hdec]
    omega
  · rw [hparams, hevq]
    omega
  · rw [hsrc, hb, List.tail_cons]

/-- Some run of the block reaches DONE. -/
def ReachesDone (s : State) : Prop := ∃ k t, Host.Core.run core k s = .next t ∧ t.fsm = .done

theorem ReachesDone.of_run {k : Nat} (hrun : Host.Core.run core k s = .next t) (h : ReachesDone t) : ReachesDone s := by
  obtain ⟨l, u, hrun', hdone⟩ := h
  exact ⟨k + l, u, (run_add k l _ _ hrun).trans hrun', hdone⟩

/-- A stream reaches DONE, if it does so from the states that read a token next: a packet in processing is done
first. -/
theorem Provided.reachesDone (h : Provided s n) (hidle : s.fsm ≠ .idle)
    (hread : ∀ u, Provided u n → readsToken u.fsm = true → u.srcBytes = s.srcBytes → u.srcEos = s.srcEos →
      ReachesDone u) : ReachesDone s := by
  by_cases hheld : packetHeld s.fsm = true
  · obtain ⟨k, t, -, hrun, ht, hseek, hsrc, heos⟩ := h.packet_done hheld
    exact .of_run hrun (hread t ht (by simp [hseek, readsToken]) hsrc heos)
  · cases hfsm : s.fsm <;> simp only [hfsm, packetHeld, ne_eq, not_true_eq_false] at hheld hidle
    case seekSync | readPacket => exact hread s h (by simp [hfsm, readsToken]) rfl rfl
    case done => exact ⟨0, s, rfl, hfsm⟩

/-- A stream whose source has ended reaches DONE from where a token is read: by induction on the bytes left. -/
theorem Provided.stream_done : ∀ (bytes : List Byte) (s : State), Provided s bytes.length → readsToken s.fsm = true →
    s.srcBytes = bytes → s.srcEos = true → ReachesDone s
  | [], _, h, hf, hb, he => by
    obtain ⟨t, hstep, hdone⟩ := step_eos h.alone hf hb he
    exact ⟨1, t, run_one hstep, hdone⟩
  | b :: rest, _, h, hf, hb, he => by
    obtain ⟨t, hstep, ht, hsrc, heos, hidle⟩ := h.step_byte hf hb
    exact .of_run (run_one hstep) (ht.reachesDone hidle fun u hu hfu hsrcu heosu =>
      stream_done rest u hu hfu (hsrcu.trans hsrc) (heosu.trans (heos.trans he)))

end Stream

/-- Settles O59: the packet in processing is done, and each byte left begins at most one more. -/
theorem everyEndedStreamReachesDone : Obligations.EveryEndedStreamReachesDone := by
  intro s h ht hidle he hans hroom
  have hahead : answersAhead s.fsm ≤ 1 ∧ eventsAhead s.fsm ≤ 2 := answersAhead_eventsAhead_le s.fsm
  have hprov : Provided s s.srcBytes.length := ⟨h, ht, by omega, by omega⟩
  exact hprov.reachesDone hidle fun u hu hfu hsrc heos =>
    Provided.stream_done s.srcBytes u hu hfu hsrc (heos.trans he)

end Sys2Proof.Machine

/-! PROOFS. A word of the opcode table placed by `withFetchWord` (log 14): format by format, the word reads back from
where it is placed, so that the state selects what the table's own context selects. -/

namespace Sys2Proof.Machine

/-! ### The word, read back from where it is placed -/

section Placed

variable {s : State}

/-- The buffer's window word is the word whose bytes stand at `P[3..16]` (R84). -/
theorem Memory.pesWord_of_bytes {m : Memory} {w : BitVec 112}
    (h : ∀ j, j < 14 → m.read (3 + j) = w.extractLsb' (8 * (13 - j)) 8) : m.pesWord = w := by
  apply BitVec.eq_of_getLsbD_eq
  intro k hk
  have hj : 13 - k / 8 < 14 := by omega
  have hbyte : m.pesWord.extractLsb' (8 * (k / 8)) 8 = w.extractLsb' (8 * (k / 8)) 8 := by
    have := (m.pesWord_extract_byte (13 - k / 8) hj).trans (h _ hj)
    rwa [show 13 - (13 - k / 8) = k / 8 by omega] at this
  have hbit := congrArg (fun b => b.getLsbD (k % 8)) hbyte
  simpa [BitVec.getLsbD_extractLsb', Nat.mod_lt, Nat.div_add_mod] using hbit

theorem pesBytes_getD (w : BitVec 112) (j : Nat) (hj : j < 14) :
    (pesBytes w).getD j 0 = w.extractLsb' (8 * (13 - j)) 8 := by
  interval_cases j <;> rfl

theorem Memory.pesWord_writeBytes {m : Memory} (hm : m.wf = true) (w : BitVec 112) :
    (m.writeBytes Config.pesOffset (pesBytes w)).pesWord = w := by
  refine Memory.pesWord_of_bytes fun j hj => ?_
  have hlen : (pesBytes w).length = 14 := rfl
  have hread := Memory.read_writeBytes (pesBytes w) m 3 (3 + j) hm (by rw [hlen]; decide)
  rwa [if_pos (by omega), Nat.add_sub_cancel_left, pesBytes_getD w j hj] at hread

theorem Memory.headerWord_writeBytes {m : Memory} (hm : m.wf = true) (h : BitVec 24) :
    (m.writeBytes 0 (headerBytes h)).headerWord = h := by
  have hlen : (headerBytes h).length = 3 := rfl
  have hread (i : Nat) (hi : i < 3) : (m.writeBytes 0 (headerBytes h)).read i = (headerBytes h).getD i 0 := by
    rw [Memory.read_writeBytes _ _ _ _ hm (by rw [hlen]; decide), if_pos (by rw [hlen]; omega), Nat.sub_zero]
  exact Memory.headerWord_of_bytes (hread 0 (by omega)) (hread 1 (by omega)) (hread 2 (by omega))

/-- The two bytes of the candidate filter, written to the buffer, are what it reads there (R87). -/
theorem Memory.read_candidate {m : Memory} (hm : m.wf = true) (marker nul : Byte) :
    ((m.write Config.candMarkerOffset marker).write Config.nullCheckOffset nul).read 4 = marker ∧
      ((m.write Config.candMarkerOffset marker).write Config.nullCheckOffset nul).read 17 = nul := by
  have hm' := Memory.write_wf m hm Config.candMarkerOffset marker (by decide)
  rw [Memory.read_write _ hm', Memory.read_write _ hm', Memory.read_write _ hm]
  exact ⟨rfl, rfl⟩

/-- A token put at the head of the source port is the one that SEEK_SYNC selects by. -/
theorem State.selected_offerToken (hf : s.fsm = .seekSync) (k : Token) (turns : List Turn) :
    ({ s.offerToken k with turns := turns } : State).selected = some (decodeSeekSync s.context k) := by
  cases k <;> exact State.selected_seekSync hf

/-! ### What the placed word selects -/

/-- An input word but the host's, placed in a state of its own context, selects what the decoder reads from it there. -/
theorem State.selected_placeInput {w : InputWord} {i : Instr} (hm : s.buf.wf = true)
    (hh : ∀ st cfg, w ≠ .host st cfg) (hd : decode (tableContext w) w = .ok i) :
    ((s.withContext (tableContext w)).placeInput w).turns = [] ∧
      ((s.withContext (tableContext w)).placeInput w).selected = some i := by
  cases w with
  | host st cfg => exact absurd rfl (hh st cfg)
  | src t =>
    obtain rfl := Except.ok.inj ((decode_seekSync rfl t).symm.trans hd)
    exact ⟨rfl, State.selected_offerToken rfl (Token.ofWord t) []⟩
  | tsh h =>
    obtain rfl : Instr.hdrDecode (Header.ofWord h) = i := Except.ok.inj hd
    refine ⟨rfl, ?_⟩
    rw [State.selected_processHeader rfl]
    exact congrArg (fun x => some (Instr.hdrDecode (Header.ofWord x))) (Memory.headerWord_writeBytes hm h)
  | pesw w =>
    obtain rfl : decodePes (tableContext (.pesw w)) (PesWindow.ofWord w) = i := Except.ok.inj hd
    refine ⟨rfl, ?_⟩
    rw [State.selected_processPes rfl]
    exact congrArg (fun x => some (decodePes _ (PesWindow.ofWord x))) (Memory.pesWord_writeBytes hm w)
  | candw c =>
    obtain rfl : decodeCandidate (tableContext (.candw c)) (CandWindow.ofWord c) = i := Except.ok.inj hd
    obtain ⟨hmarker, hnull⟩ := Memory.read_candidate hm (CandWindow.ofWord c).marker (CandWindow.ofWord c).nullByte
    have hwindow : ((s.withContext (tableContext (.candw c))).placeInput (.candw c)).candWindow = CandWindow.ofWord c :=
      congrArg₂ (fun a b => CandWindow.mk a (CandWindow.ofWord c).pid b) hmarker hnull
    refine ⟨rfl, ?_⟩
    rw [State.selected_processCandidate rfl, hwindow]
    rfl
  | decr tag x =>
    obtain rfl : (if tag = 1 then .decOk x else .decFail) = i := Except.ok.inj hd
    refine ⟨rfl, ?_⟩
    rw [State.selected_waitDecoder rfl]
    exact congrArg some (apply_ite decodeResponse (tag = 1) (.ok x) .fail)

end Placed

theorem decodeTableWord_eq_some {nbits w : Nat} {i : Instr} (h : decodeTableWord nbits w = some i) :
    ∃ inp, tableInput nbits w = some inp ∧ decode (tableContext inp) inp = .ok i := by
  unfold decodeTableWord at h
  cases hinp : tableInput nbits w with
  | none => simp [hinp] at h
  | some inp =>
    refine ⟨inp, rfl, ?_⟩
    cases hd : decode (tableContext inp) inp <;> simp [hinp, hd, Except.toOption] at h
    rw [h]

/-- Settles O52: the host's word is its start in IDLE, and any other word is placed where the state that reads it finds
it. -/
theorem placedTableWordIsRunNext : Obligations.PlacedTableWordIsRunNext := by
  intro s nbits w i hm hd
  obtain ⟨inp, hinp, hd⟩ := decodeTableWord_eq_some hd
  have hplaced : s.withFetchWord nbits w = (s.withContext (tableContext inp)).placeInput inp := by
    simp only [State.withFetchWord, State.placeTableWord, hinp]
  rw [hplaced]
  by_cases hh : ∃ st cfg, inp = .host st cfg
  · obtain ⟨st, cfg, rfl⟩ := hh
    obtain rfl : st = 1 := by
      by_contra hst
      cases (if_neg hst).symm.trans hd
    obtain rfl : Instr.start cfg.showNull cfg.pidFilter cfg.resync = i := Except.ok.inj hd
    exact ⟨.inr ⟨rfl, rfl, rfl⟩, rfl⟩
  · push Not at hh
    obtain ⟨ht, hs⟩ := State.selected_placeInput (s := s) hm hh hd
    refine ⟨.inl ⟨ht, hs⟩, ?_⟩
    rw [step_block_nil ht, blockStep_selected hs, State.with_turns_self ht]

end Sys2Proof.Machine

/-! PROOFS. The single operations and agents that the earlier parts leave (10_state.md, 43_candidate_filter.md,
44_stream_driver.md, 60_exceptions.md, 70_reset_and_hazards.md). -/

namespace Sys2Proof.Machine

/-! ### START, and the states where nothing else acts -/

theorem exec_start_enabled {s : State} (h : s.startEnabled = true) (n : Bool) (p : Option Pid) (r : Bool) :
    exec (.start n p r) s = .next (s.openStream ⟨n, p, r⟩) :=
  if_pos h

/-- Where nothing is selected the block holds, and every operation but START with it (R117, R200). -/
theorem holds_of_selected_none {s : State} (h : s.selected = none) :
    blockStep s = .next s ∧ ∀ i, (∀ n p r, i ≠ .start n p r) → exec i s = .next s :=
  ⟨blockStep_none h, fun _ hi => exec_unselected hi (by simp [h])⟩

/-- Settles O1: IDLE selects nothing, and of the status registers in it only FSM and DONE_REASON are specified. -/
theorem powerOnIsIdleAndOnlyStartActs : Obligations.PowerOnIsIdleAndOnlyStartActs := by
  refine ⟨⟨rfl, rfl, rfl⟩, fun r => ?_, fun s hf => holds_of_selected_none (State.selected_idle hf)⟩
  cases r <;> simp [State.specified, State.reset]

/-- Settles O2: START is enabled in IDLE and DONE, and opens the stream. -/
theorem startOpensStream : Obligations.StartOpensStream := by
  intro s n p r hf
  refine ⟨[], ?_⟩
  rw [exec_start_enabled (s.startEnabled_iff.mpr hf)]
  cases p <;> rfl

/-- Settles O3: START is refused elsewhere, with the model's mark. -/
theorem startMidStreamChangesNoRegister : Obligations.StartMidStreamChangesNoRegister := by
  intro s n p r hidle hdone
  have hno : ¬ s.startEnabled = true := fun h => (s.startEnabled_iff.mp h).elim hidle hdone
  exact ⟨true, if_neg hno⟩

/-- Settles O11: with no token offered neither state selects an operation. -/
theorem noTokenHoldsTheBlock : Obligations.NoTokenHoldsTheBlock := by
  intro s hf hb he
  have htoken : s.token = none := by simp [State.token, hb, he]
  refine holds_of_selected_none ?_
  rcases hf with hf | hf
  · rw [State.selected_seekSync hf, htoken, Option.map_none]
  · rw [State.selected_readPacket hf, htoken, Option.map_none]

/-- Settles O39: `terminate` writes the two registers, and DONE selects nothing. -/
theorem doneIsFinalForTheStream : Obligations.DoneIsFinalForTheStream :=
  ⟨fun _ _ => rfl, fun _ hf => holds_of_selected_none (State.selected_done hf)⟩

/-! ### The candidate filter -/

section Candidate

variable {s : State}

/-- The PID check of R173 fails where no PID is locked or this one is. -/
theorem Context.pidLocked_eq_false {c : Context} {pid : Pid} (h : c.lockValid = true → pid = c.lockPid) :
    c.pidLocked pid = false := by
  rw [← Bool.not_eq_true, Context.pidLocked_iff]
  exact fun ⟨hv, hp⟩ => hp (h hv)

theorem State.selected_candSkipReserved (hf : s.fsm = .processCandidate) (hm : s.buf.read 4 = 0xFC)
    (hr : s.hdr.pid = 101) : s.selected = some (.candSkipReserved s.candWindow) := by
  rw [State.selected_processCandidate hf, decodeCandidate_skipReserved hm hr]

theorem State.selected_candSkipNull (hf : s.fsm = .processCandidate) (hm : s.buf.read 4 = 0xFC) (hr : s.hdr.pid ≠ 101)
    (hl : s.lockValid = true → s.hdr.pid = s.lockPid) (hn : s.cfgShowNull = false) (h0 : s.buf.read 17 = 0) :
    s.selected = some (.candSkipNull s.candWindow) := by
  rw [State.selected_processCandidate hf,
    decodeCandidate_skipNull hm hr (Context.pidLocked_eq_false (c := s.context) (pid := s.hdr.pid) hl) hn h0]

theorem State.selected_candIssue (hf : s.fsm = .processCandidate) (hm : s.buf.read 4 = 0xFC) (hr : s.hdr.pid ≠ 101)
    (hl : s.lockValid = true → s.hdr.pid = s.lockPid) (hn : s.cfgShowNull = false → s.buf.read 17 ≠ 0) :
    s.selected = some (.candIssue s.candWindow) := by
  rw [State.selected_processCandidate hf,
    decodeCandidate_issue hm hr (Context.pidLocked_eq_false (c := s.context) (pid := s.hdr.pid) hl) hn]

end Candidate

/-- Settles O30: check 2 decides before the lock and `P[17]` are looked at. -/
theorem candSkipReservedSkips : Obligations.CandSkipReservedSkips := fun _ hf hm hr =>
  exec_effect (State.selected_candSkipReserved hf hm hr) (.candSkipReserved _)

/-- Settles O32: past checks 1 to 3 a null byte that is not to be shown selects CAND_SKIP_NULL. -/
theorem candSkipNullSkips : Obligations.CandSkipNullSkips := fun _ hf hm hr hl hn h0 =>
  exec_effect (State.selected_candSkipNull hf hm hr hl hn h0) (.candSkipNull _)

/-- Settles O33: past the four checks the span is sent, and the span is `P[4..186]` byte by byte. -/
theorem candIssueSendsTheSpan : Obligations.CandIssueSendsTheSpan := by
  intro s hf hm hr hl hn
  refine ⟨s.buf.candSpan, exec_effect (State.selected_candIssue hf hm hr hl hn) (.candIssue _),
    s.buf.candSpan_length, fun i hi => ?_⟩
  have hi' : i < Config.candSpanLen := hi
  simp [Memory.candSpan, Memory.bytes, hi']

/-- Settles O34: the object offered selects DEC_OK, which takes its effect or waits for room. -/
theorem decOkEmitsAndLocks : Obligations.DecOkEmitsAndLocks := by
  intro s x span rest hf hq ha
  refine ⟨fun hroom => ?_, fun hfull => exec_no_room rfl (by simpa [State.hasRoom] using hfull)⟩
  have hs : s.selected = some (.decOk x) := State.selected_waitDecoder_response hf hq ha
  rw [exec_effect hs (.decOk x (s.hasRoom_iff.mpr hroom)), State.decResponse_of_decAnswers_cons ha]
  simp only [State.goto, State.lockIfNone, State.emit, State.count, State.latchSection, Counters.bump]
    <;> rfl

/-! ### The other agents, counters and codes -/

/-- Settles O41: the sink's turn removes the head of `EVQ`, or nothing. -/
theorem sinkRemovesTheHeadEvent : Obligations.SinkRemovesTheHeadEvent := by
  intro s rest ht
  have hstep : step s = .next (State.sinkRemoves { s with turns := rest }) := by
    simp only [step, ht, agentStep]
  refine ⟨fun e q hq => ?_, fun hq => ?_⟩
  · rw [hstep, State.sinkRemoves_of_evq_cons (s := { s with turns := rest }) hq]
    rfl
  · rcases State.sinkRemoves_cases { s with turns := rest } with ⟨-, e⟩ | ⟨e, q, hq', -⟩
    · rw [hstep, e]
    · rw [hq] at hq'
      cases hq'

theorem Counters.get_bump (c : Counters) (k n : Counter) :
    (c.bump k).get n = if n = k then c.get k + 1 else c.get n := by
  cases k <;> cases n <;> rfl

/-- Settles O44: an increment adds 1 in 32 bits to the one counter. -/
theorem countersWrapAndAreSeparate : Obligations.CountersWrapAndAreSeparate := by
  intro c k n
  refine ⟨?_, fun hne => ?_⟩
  · rw [Counters.get_bump, if_pos rfl]
    exact BitVec.toNat_add _ 1
  · rw [Counters.get_bump, if_neg hne]

/-- The readable registers: in IDLE all, after START all but the three with their valid bits 0 (R39, R40; logs 1
and 10). -/
theorem State.readable_eq_false_iff (s : State) (r : StatusReg) :
    s.readable r = false ↔ s.fsm ≠ .idle ∧ (r = .lockPid ∧ s.lockValid = false ∨
      r = .lastPts ∧ s.lastPtsValid = false ∨ r = .lastSection ∧ s.lastSectionValid = false) := by
  by_cases hf : s.fsm = .idle
  · simp [State.readable, hf]
  · cases r <;> simp [State.readable, State.specified, hf]

/-- A status read shows the register's value, or faults (R36, R40). -/
theorem step_hostRead {s : State} {r : StatusReg} {rest : List Turn} (ht : s.turns = .host (.read r) :: rest) :
    step s = if s.readable r then .next { s with turns := rest, hostSeen := s.hostSeen ++ [(r, s.statusValue r)] }
      else .fault (.unspecifiedRead r) := by
  have hreadable : ({ s with turns := rest } : State).readable r = s.readable r := by cases r <;> rfl
  have hvalue : ({ s with turns := rest } : State).statusValue r = s.statusValue r := by cases r <;> rfl
  simp only [step, ht, agentStep, State.hostReads, hreadable, hvalue]

/-- Settles O45: a read faults where the register is not readable, and else shows its value, a flag as 1 or 0. -/
theorem hostReadHasNoSideEffect : Obligations.HostReadHasNoSideEffect := by
  intro s r rest ht
  have hflag (b : Bool) : b.toNat = if b then 1 else 0 := by cases b <;> rfl
  rw [step_hostRead ht]
  by_cases hno : s.readable r = false
  · rw [if_pos ((s.readable_eq_false_iff r).mp hno), hno, if_neg Bool.false_ne_true]
  · rw [if_neg (mt (s.readable_eq_false_iff r).mpr hno), if_pos (Bool.eq_true_of_not_eq_false hno)]
    cases r
    case counter c => cases c <;> rfl
    all_goals simp only [State.statusValue, hflag]

/-- Settles O46: the codes, one by one. -/
theorem statusCodes : Obligations.StatusCodes := ⟨rfl, rfl, rfl⟩

/-- Settles O50: the eight words, evaluated. -/
theorem writtenOutWordsDecode : Obligations.WrittenOutWordsDecode :=
  ⟨rfl, rfl, rfl, rfl, rfl, rfl, rfl, rfl⟩

/-- Settles O51: the block's step runs what its state selects, and the host's turn is START itself. -/
theorem stepRunsTheDecodedOperation : Obligations.StepRunsTheDecodedOperation := by
  refine ⟨fun s w i ht hw hd => ?_, fun s w i rest ht hw hd => ?_, fun s rest ht => ?_⟩
  · rw [step_block_nil ht, blockStep_selected (State.selected_eq_some_iff.mpr ⟨w, hw, hd⟩)]
  · rw [step_block_cons ht]
    exact blockStep_selected (State.selected_eq_some_iff.mpr ⟨w, hw, hd⟩)
  · simp only [step, ht, agentStep]

end Sys2Proof.Machine
